-- ==== Sys2Proof/Word.lean ====
section
/-! DEFINITION. The bit-vector types of the LF3206: what the manual treats as bits. -/

namespace Sys2Proof

/-- One byte of a request frame, of a response, or on LD7:0. -/
abbrev Byte := BitVec 8

/-- The address of a slave register, 0 to 255. -/
abbrev Register := BitVec 8

/-- The value of a slave register, 16 bits. -/
abbrev Value := BitVec 16

/-- A whole link frame, frame bit 26 sent first (R195). -/
abbrev LinkBits := BitVec 27

/-- The 17 bits that the hub samples in a read frame: D15 to D0 in bits 16 to 1, the parity bit in bit 0 (R54, R195). -/
abbrev SampledBits := BitVec 17

end Sys2Proof
end

