-- ==== Sys2Proof/Syntax.lean ====
section
/-! DEFINITION. The commands of the LF3206: one constructor for each row of spec/opcode_table.json.

A request row is the step in which the request engine TAKES the head frame of a port's request queue (R126, R127). Its
operand is the port. The request's own operands (device, register, value, flags) are the bytes of that frame, which the
port's byte commands have put into the queue (log entry 1). -/

namespace Sys2Proof

/-- The two ports: H, the two-wire target, and L, the parallel mailbox. -/
inductive Port where
  | h
  | l
deriving DecidableEq, Repr

/-- A device number, 0 to 5 (R1). -/
abbrev DevNum := Fin 6

/-- A profile number, 0 to 3 (R109). -/
abbrev Profile := Fin 4

/-- The commands. Each constructor is one row of the table of operations and events. -/
inductive Instr where
  /-- READ_STATUS (R134): operand byte device, or 255 for the hub. -/
  | readStatus (p : Port)
  /-- READ_NOTICES (R142): no operand byte. -/
  | readNotices (p : Port)
  /-- SET_NOTICE_MASK (R143): operand bytes notice mask (2). -/
  | setNoticeMask (p : Port)
  /-- SET_ATTENTION (R144): operand byte attention flags. -/
  | setAttention (p : Port)
  /-- DEFINE_DEVICE (R15): device, check register, marker (2), speed class, verify policy, retry limit, probe interval, fence limit. -/
  | defineDevice (p : Port)
  /-- REMOVE_DEVICE (R20): device. -/
  | removeDevice (p : Port)
  /-- ADD_ENTRY (R16): device, register, owner, base value (2), verify mask (2). -/
  | addEntry (p : Port)
  /-- REMOVE_ENTRY (R17): device, register. -/
  | removeEntry (p : Port)
  /-- SET_ENTRY_ATTR (R19): device, register, owner, verify mask (2). -/
  | setEntryAttr (p : Port)
  /-- READ_ENTRY (R21): device, register, read flags. -/
  | readEntry (p : Port)
  /-- WRITE (R41): device, register, slot, write flags, value (2). -/
  | write (p : Port)
  /-- ACTIVATE (R47): device, wait flags. -/
  | activate (p : Port)
  /-- DEACTIVATE (R48): device. -/
  | deactivate (p : Port)
  /-- RESYNC (R50): device, wait flags. -/
  | resync (p : Port)
  /-- RESET_DEVICE (R87): device, wait flags. -/
  | resetDevice (p : Port)
  /-- READ_DEVICE (R68): device, register. -/
  | readDevice (p : Port)
  /-- RAW_WRITE (R69): device, register, value (2). -/
  | rawWrite (p : Port)
  /-- CLAIM (R95): device, lease. -/
  | claim (p : Port)
  /-- COMMIT (R100): device, wait flags. -/
  | commit (p : Port)
  /-- ABANDON (R102): device. -/
  | abandon (p : Port)
  /-- SELECT_PROFILE (R113): profile, wait flags. -/
  | selectProfile (p : Port)
  /-- SET_PROFILE_SOURCE (R114): source. -/
  | setProfileSource (p : Port)
  /-- SAVE_IMAGE (R181): no operand byte. -/
  | saveImage (p : Port)
  /-- RESTART (R179): no operand byte. -/
  | restart (p : Port)
  /-- PROBE_GRANT (R62). -/
  | probeGrant
  /-- PUSH_GRANT (R27). -/
  | pushGrant
  /-- MARKER_GRANT (R39). -/
  | markerGrant
  /-- MANUAL_READ (R70): the grant of a manual queue whose head is a READ_DEVICE. -/
  | manualRead
  /-- MANUAL_WRITE (R71): the grant of a manual queue whose head is a RAW_WRITE. -/
  | manualWrite
  /-- FOLLOW_ON_FRAME_START (R57). -/
  | followOnFrameStart
  /-- PUSH_WRITE_FRAME_END (R28). -/
  | pushWriteFrameEnd
  /-- READBACK_END (R29), with the 17 bits sampled from DDAT. -/
  | readbackEnd (bits : SampledBits)
  /-- MARKER_WRITE_FRAME_END (R57). -/
  | markerWriteFrameEnd
  /-- CONFIRM_READ_END (R80), with the 17 bits sampled from DDAT. -/
  | confirmReadEnd (bits : SampledBits)
  /-- PROBE_READ_END (R78), with the 17 bits sampled from DDAT. -/
  | probeReadEnd (bits : SampledBits)
  /-- MANUAL_READ_FRAME_END (R70), with the 17 bits sampled from DDAT. -/
  | manualReadFrameEnd (bits : SampledBits)
  /-- MANUAL_WRITE_FRAME_END (R71). -/
  | manualWriteFrameEnd
  /-- PROBE_TIMER_EXPIRY (R76) of the device numbered. -/
  | probeTimerExpiry (device : Nat)
  /-- CLAIM_EXPIRED (R103): the expiry of the claim on the device numbered. -/
  | claimExpired (device : Nat)
  /-- PSEL_CHANGE (R111), with the new level of PSEL1:0. -/
  | pselChange (level : Profile)
  /-- LINE_CHANGE (R111). -/
  | lineChange
  /-- HOLD_CHANGE (R64), with the new level of HOLD. -/
  | holdChange (asserted : Bool)
  /-- SAVE_END (R183): whether the programmed content verifies. -/
  | saveEnd (verified : Bool)
  /-- RST_ASSERT (R174). -/
  | rstAssert
  /-- RST_RELEASE (R174). -/
  | rstRelease
  /-- POWER_UP (R175). -/
  | powerUp
  /-- VDD_BELOW_RUN_LEVEL (R185). -/
  | vddBelowRunLevel
  /-- VDD_ABOVE_RUN_LEVEL (R186). -/
  | vddAboveRunLevel
  /-- VDD_BELOW_RETAIN_LEVEL (R187). -/
  | vddBelowRetainLevel
  /-- START_STEPS_COMPLETE (R178), with the levels of ADR1:0 and PSEL1:0 as START sampled them (R176). -/
  | startStepsComplete (adr : Fin 4) (psel : Profile)
  /-- START_CONDITION (R148) on Port H, after so many bits of an unfinished byte. -/
  | startCondition (partialBits : Nat)
  /-- STOP_CONDITION (R151) on Port H, after so many bits of an unfinished byte. -/
  | stopCondition (partialBits : Nat)
  /-- ADDRESS_BYTE (R149): seven address bits and the direction bit. -/
  | addressByte (b : Byte)
  /-- WRITE_DATA_BYTE (R150). -/
  | writeDataByte (b : Byte)
  /-- RESPONSE_BYTE_ACK (R155): whether the bus partner acknowledged. -/
  | responseByteAck (ack : Bool)
  /-- LFRM_ASSERT (R163). -/
  | lfrmAssert
  /-- LFRM_DEASSERT (R166). -/
  | lfrmDeassert
  /-- LSTB_FALL (R164), with the byte that the partner puts on LD7:0. -/
  | lstbFall (data : Byte)
  /-- INBOUND_BYTE_TAKE (R165). -/
  | inboundByteTake
  /-- OUTBOUND_LATCH_LOAD (R168). -/
  | outboundLatchLoad
  /-- LACK_ASSERT (R169). -/
  | lackAssert
  /-- LACK_RISE (R169). -/
  | lackRise
  /-- BAD_FRAME_TAKE (R128). -/
  | badFrameTake (p : Port)
deriving DecidableEq, Repr

end Sys2Proof
end

