-- ==== Sys2Proof/Config.lean ====
section
/-! DEFINITION. The capacities of the LF3206 (About this manual, Capacities) and the unit of time that an idle step counts.
No value of this hardware is left open in a way that calls for a free value: INVENTORY.md says where each open point went. -/

namespace Sys2Proof.Config

/-- Bytes that an assembly buffer keeps of one frame (R150, R165). -/
abbrev frameBytes : Nat := 16

/-- Frames in a port's request queue (R126). -/
abbrev requestQueue : Nat := 4

/-- Outstanding deferred requests of a port (R130). -/
abbrev outstandingCap : Nat := 4

/-- The bound on a port's responses plus outstanding requests (R127). -/
abbrev answerCap : Nat := 8

/-- Notices in a port's list (R140). -/
abbrev noticeList : Nat := 16

/-- Notices that one READ_NOTICES removes at most (R142). -/
abbrev noticesPerRead : Nat := 8

/-- Entries of one device (R5). -/
abbrev entriesPerDevice : Nat := 128

/-- Entry records in the pool (R4). -/
abbrev poolSize : Nat := 320

/-- The greatest sequence number of a bank, 2^32 − 1 (R180). -/
abbrev lastSequence : Nat := 4294967295

/-- Milliseconds in one unit of a probe timer (R76). -/
abbrev probeUnit : Nat := 4

/-- Milliseconds in one unit of a lease (R94). -/
abbrev leaseUnit : Nat := 10

/-- Milliseconds for which a candidate level must hold (R111). -/
abbrev debounceTime : Nat := 2

/-- The DCLK period of speed class 0, in nanoseconds; each further class doubles it (R56). -/
abbrev dclkPeriodNs : Nat := 500

/-- VDD falling below this enters LOW_SUPPLY, in millivolts (R188, run level). -/
abbrev runLevelFallingMv : Nat := 2800

/-- VDD rising above this leaves LOW_SUPPLY, in millivolts (R188, run level). -/
abbrev runLevelRisingMv : Nat := 2900

/-- The retain level, in millivolts (R188). -/
abbrev retainLevelMv : Nat := 1600

/-- The shortest low level of RST# that is taken, in nanoseconds (R175, R188). -/
abbrev rstLowNs : Nat := 1000

/-- The port address of Port H with ADR1:0 at 0 (R148). -/
abbrev addressBase : Nat := 92

/-- The tag of a response to a frame whose tag cannot be read (R129). -/
abbrev noTag : Byte := 255

end Sys2Proof.Config
end

