-- ==== Sys2Proof/Machine/State.lean ====
section
/-! DEFINITION. The state of the LF3206, block by block, as plain data, and the state right after reset. -/

namespace Sys2Proof.Machine

/-- Six like things, one for each device number (R1). -/
structure PerDevice (α : Type) where
  d0 : α
  d1 : α
  d2 : α
  d3 : α
  d4 : α
  d5 : α
deriving DecidableEq, Repr

/-- Two like things, one for each port. -/
structure PerPort (α : Type) where
  h : α
  l : α
deriving DecidableEq, Repr

/-! ### Image store and coherence engine (chapters 1 and 2) -/

/-- The owner of an entry (R12). -/
inductive Owner where
  | h
  | l
  | any
deriving DecidableEq, Repr

/-- The verify policy of a device (R2). -/
inductive VerifyPolicy where
  | none
  | readback
deriving DecidableEq, Repr

/-- The seven parameters of a device record (R2). -/
structure Params where
  checkRegister : Register
  marker : Value
  speedClass : Nat
  verifyPolicy : VerifyPolicy
  retryLimit : Nat
  probeInterval : Nat
  fenceLimit : Nat
deriving DecidableEq, Repr

/-- The states of a defined device (R32). -/
inductive DevState where
  | dormant
  | loading
  | running
  | diverged
  | suspect
  | fenced
deriving DecidableEq, Repr

/-- The load phases (R1, R36, R37). -/
inductive LoadPhase where
  | entries
  | marker
  | confirmed
deriving DecidableEq, Repr

/-- The phases of an entry that is IN_FLIGHT (R24). -/
inductive PushPhase where
  | write
  | readback
deriving DecidableEq, Repr

/-- The states of an entry (R24). The phase and the sent value are present only while IN_FLIGHT (R7). -/
inductive EntryState where
  | pending
  | inFlight (phase : PushPhase) (sent : Value)
  | applied
  | failed
deriving DecidableEq, Repr

/-- What a slot is given: a value, or CLEAR, the removal of an override (R8, R11). -/
inductive SlotContent where
  | value (v : Value)
  | clear
deriving DecidableEq, Repr

/-- An entry record (R7). The desired value is not stored: it is resolved from the slots by R9 (Entry.desired). -/
structure Entry where
  register : Register
  owner : Owner
  verifyMask : Value
  base : Value
  override1 : Option Value
  override2 : Option Value
  override3 : Option Value
  state : EntryState
  applied : Option Value
  attempts : Nat
  stagedBase : Option Value
  staged1 : Option SlotContent
  staged2 : Option SlotContent
  staged3 : Option SlotContent
  mark : Bool
deriving DecidableEq, Repr

/-- A defined device record (R1), with the loss unit's fields of R75. An ABSENT record is none in the device table. -/
structure Device where
  params : Params
  state : DevState
  phase : LoadPhase
  /-- Probe remaining, in units of 4 ms (R75). -/
  probeRemaining : Nat
  /-- Milliseconds of running time counted toward the probe timer's next unit (R76, log entry 21). -/
  probeElapsed : Nat
  probeDue : Bool
  losses : Nat
  profile : Profile
  entries : List Entry
deriving DecidableEq, Repr

/-! ### Claim unit (chapter 5) -/

/-- A claim record (R92); the device is its place in the claim table. -/
structure Claim where
  holder : Port
  /-- Lease remaining, in units of 10 ms. -/
  lease : Nat
  /-- Milliseconds of running time counted toward the lease's next unit (R94, log entry 21). -/
  elapsed : Nat
deriving DecidableEq, Repr

/-- A late mark (R93). -/
inductive LateMark where
  | none
  | expired
  | broken
deriving DecidableEq, Repr

/-! ### Profile controller (chapter 6) -/

/-- The profile source (R110). -/
inductive ProfileSource where
  | requests
  | lines
deriving DecidableEq, Repr

/-- A transition record (R118). Its waiters are the outstanding requests that wait on the transition
(log entry 14). -/
structure Transition where
  target : Profile
  unapplied : Nat
  deferred : PerDevice Bool
deriving DecidableEq, Repr

/-- The profile controller's state (R110). -/
structure ProfileController where
  source : ProfileSource
  target : Profile
  lineLevel : Profile
  candidate : Option Profile
  /-- Candidate time, in ms. -/
  candidateTime : Nat
  transition : Option Transition
deriving DecidableEq, Repr

/-! ### Link controller (chapter 3) -/

/-- The kinds of transaction (R57). -/
inductive TxnKind where
  | push
  | marker
  | probe
  | manualRead
  | manualWrite
deriving DecidableEq, Repr

/-- The requesters of the link (R58, R61). -/
inductive Requester where
  | pushWalker
  | lossUnit
  | manual (p : Port)
deriving DecidableEq, Repr

/-- The requesters that the arbiter serves by rotation (R63). -/
inductive Rotation where
  | pushWalker
  | manualH
  | manualL
deriving DecidableEq, Repr

/-- The operation field of a link frame (R53). -/
inductive LinkOp where
  | write
  | read
deriving DecidableEq, Repr

/-- The frame on the link: its device, whose select line is asserted, its fields (R53) and its speed class (R56).
The data field is what the hub drives in a write frame; in a read frame the slave drives it. -/
structure LinkFrame where
  device : DevNum
  op : LinkOp
  register : Register
  data : Value
  speedClass : Nat
deriving DecidableEq, Repr

/-- The transaction in progress (R58). `params` is the device's parameters as they stood at the grant: a discarded
transaction runs through the same frames it would otherwise send (R60) even if its device record has gone since (log entry 6). -/
structure Txn where
  kind : TxnKind
  device : DevNum
  register : Register
  requester : Requester
  frame : Nat
  readsMade : Nat
  discard : Bool
  params : Params
deriving DecidableEq, Repr

/-- The kind of a manual transfer, with the value of a RAW_WRITE (R67). -/
inductive TransferKind where
  | readDevice
  | rawWrite (value : Value)
deriving DecidableEq, Repr

/-- A manual transfer in a port's manual queue (R67). -/
structure Transfer where
  kind : TransferKind
  tag : Byte
  device : DevNum
  register : Register
deriving DecidableEq, Repr

/-! ### Boot image store (chapter 10) -/

/-- The two banks. -/
inductive BankId where
  | a
  | b
deriving DecidableEq, Repr

/-- The image origin (R174). -/
inductive Origin where
  | noImage
  | bankA
  | bankB
deriving DecidableEq, Repr

/-- An entry as a bank records it (R180). -/
structure BankEntry where
  register : Register
  owner : Owner
  verifyMask : Value
  base : Value
  override1 : Option Value
  override2 : Option Value
  override3 : Option Value
deriving DecidableEq, Repr

/-- A defined device as a bank records it (R180). -/
structure BankDevice where
  params : Params
  active : Bool
  entries : List BankEntry
deriving DecidableEq, Repr

/-- A snapshot of the image (R180, R182). -/
structure Snapshot where
  source : ProfileSource
  bootProfile : Profile
  devices : PerDevice (Option BankDevice)
deriving DecidableEq, Repr

/-- A nonvolatile bank: invalid, or valid with its sequence number and snapshot (R180, log entry 12). -/
inductive Bank where
  | invalid
  | valid (sequence : Nat) (snapshot : Snapshot)
deriving DecidableEq, Repr

/-- The save phases (R180). -/
inductive SavePhase where
  | idle
  | writing
  | aborted
deriving DecidableEq, Repr

/-- The save record: the target bank, the sequence being written and the save buffer (R180). -/
structure SaveRecord where
  bank : BankId
  sequence : Nat
  snapshot : Snapshot
deriving DecidableEq, Repr

/-- The last save outcome (R180). -/
inductive SaveOutcome where
  | none
  | ok
  | failed
deriving DecidableEq, Repr

/-- The state of saves (R180). -/
structure SaveUnit where
  phase : SavePhase
  record : Option SaveRecord
  lastOutcome : SaveOutcome
  lastSequence : Nat
deriving DecidableEq, Repr

/-! ### Request engine and notice unit (chapters 7 and 11) -/

/-- A request frame: the bytes that the port kept, and the broken mark (R126). -/
structure Frame where
  bytes : List Byte
  broken : Bool
deriving DecidableEq, Repr

/-- The 24 request kinds (R189). -/
inductive ReqKind where
  | readStatus
  | readNotices
  | setNoticeMask
  | setAttention
  | defineDevice
  | removeDevice
  | addEntry
  | removeEntry
  | setEntryAttr
  | readEntry
  | write
  | activate
  | deactivate
  | resync
  | resetDevice
  | readDevice
  | rawWrite
  | claim
  | commit
  | abandon
  | selectProfile
  | setProfileSource
  | saveImage
  | restart
deriving DecidableEq, Repr

/-- What an outstanding deferred request waits on (R130). -/
inductive Wait where
  /-- An entry wait: device, register, expected value (R43). -/
  | entry (device : DevNum) (register : Register) (expected : Value)
  /-- A device-settle wait (R46), with the commit count where a COMMIT opened it (R101). -/
  | settle (device : DevNum) (commitCount : Option Nat)
  /-- A waiter of the transition in flight (R122). -/
  | transition
  /-- A manual transfer (R67). -/
  | manual
  /-- The save (R181). -/
  | save
deriving DecidableEq, Repr

/-- An outstanding deferred request (R130). -/
structure Outstanding where
  tag : Byte
  kind : ReqKind
  wait : Wait
deriving DecidableEq, Repr

/-- The 20 outcome codes (7.3, R191). -/
inductive OutcomeCode where
  | ok
  | staged
  | superseded
  | failed
  | fenced
  | notActive
  | denied
  | held
  | busy
  | notFound
  | duplicate
  | noSpace
  | notPermitted
  | badRequest
  | badFrame
  | expired
  | broken
  | aborted
  | managed
  | wrongState
deriving DecidableEq, Repr

/-- The 10 notice kinds (R137). -/
inductive NoticeKind where
  | started
  | deviceLost
  | loadDone
  | entryFailed
  | deviceFenced
  | claimExpired
  | claimBroken
  | profileSettled
  | saveDone
  | supplyRestored
deriving DecidableEq, Repr

/-- A notice with its device and its detail (R137). -/
inductive Notice where
  | started (origin : Origin)
  | deviceLost (device : DevNum)
  | loadDone (device : DevNum) (failed : Nat)
  | entryFailed (device : DevNum) (register : Register)
  | deviceFenced (device : DevNum)
  | claimExpired (device : DevNum)
  | claimBroken (device : DevNum)
  /-- An unapplied count of 0 is the outcome COMPLETE, any other count PARTIAL (R121). -/
  | profileSettled (profile : Profile) (unapplied : Nat)
  | saveDone (ok : Bool) (sequence : Nat)
  | supplyRestored
deriving DecidableEq, Repr

/-- The state of an entry as READ_ENTRY carries it, without phase and sent value (R22). -/
inductive EntryStatus where
  | pending
  | inFlight
  | applied
  | failed
deriving DecidableEq, Repr

/-- The view of an entry that READ_ENTRY returns (R22). -/
structure EntryView where
  register : Register
  owner : Owner
  state : EntryStatus
  attempts : Nat
  verifyMask : Value
  base : Value
  override1 : Option Value
  override2 : Option Value
  override3 : Option Value
  desired : Value
  applied : Option Value
  stagedBase : Option Value
  staged1 : Option SlotContent
  staged2 : Option SlotContent
  staged3 : Option SlotContent
deriving DecidableEq, Repr

/-- The hub form of READ_STATUS (R135). The hub state is READY in every report. -/
structure HubForm where
  source : ProfileSource
  target : Profile
  transition : Option Profile
  saving : Bool
  lastOutcome : SaveOutcome
  lastSequence : Nat
  origin : Origin
  hold : Bool
  poolInUse : Nat
  devices : PerDevice (Option DevState)
deriving DecidableEq, Repr

/-- The device form of READ_STATUS (R136). -/
structure DeviceForm where
  state : DevState
  phase : LoadPhase
  profile : Profile
  claim : Option (Port × Nat)
  losses : Nat
  fenceLimit : Nat
  probeInterval : Nat
  probeRemaining : Nat
  pending : Nat
  inFlight : Nat
  applied : Nat
  failed : Nat
deriving DecidableEq, Repr

/-- The payload of a response (R133). -/
inductive Payload where
  | none
  /-- An applied value, or the 16 data bits read. -/
  | value (v : Value)
  /-- A failed count or a commit count. -/
  | count (n : Nat)
  /-- An unapplied count. -/
  | unapplied (n : Nat)
  | sequence (n : Nat)
  | notices (removed : List Notice) (more lost : Bool)
  | entry (view : EntryView)
  | hub (form : HubForm)
  | device (form : DeviceForm)
deriving DecidableEq, Repr

/-- A response (R131). -/
structure Response where
  tag : Byte
  outcome : OutcomeCode
  payload : Payload
deriving DecidableEq, Repr

/-- What the request engine, the link controller and the notice unit hold for one port
(R126, R130, R132, R67, R137). -/
structure PortSide where
  requests : List Frame
  /-- Outstanding deferred requests, in the order in which they were taken. -/
  outstanding : List Outstanding
  responses : List Response
  manual : List Transfer
  notices : List Notice
  /-- The notice mask: bit n admits the kind with code n + 1 (R189). Bit 0, STARTED, is always set (R143). -/
  mask : BitVec 10
  lost : Bool
  responseEnable : Bool
  noticeEnable : Bool
deriving DecidableEq, Repr

/-! ### Ports (chapters 8 and 9) -/

/-- An assembly buffer (R148, R161). -/
inductive Buffer where
  | empty
  | assembling (bytes : List Byte) (broken : Bool)
  | complete (frame : Frame)
deriving DecidableEq, Repr

/-- The bus phases of Port H (R148). UNSYNCED of R159 and R160 is IDLE with PortH.unsynced set (log entry 2). -/
inductive BusPhase where
  | inactive
  | idle
  | address
  | write
  | read
  | skip
deriving DecidableEq, Repr

/-- The outbound cursor of Port H (R148). -/
inductive CursorH where
  | none
  | sending (sent : Nat)
  | fill
deriving DecidableEq, Repr

/-- Port H (R148). -/
structure PortH where
  /-- The port address, seven bits. -/
  address : BitVec 7
  phase : BusPhase
  /-- UNSYNCED (R159): in phase IDLE, the port has seen no START or STOP condition since the hub became READY
  (log entry 2). -/
  unsynced : Bool
  buffer : Buffer
  cursor : CursorH
  /-- The bus partner has not acknowledged a byte before the last: SDA stays released to the transaction's end
  (R155, log entry 20). -/
  stopped : Bool
  /-- What the port drove on the ninth clock of the byte it received last: true is an acknowledge (R149, R150,
  log entry 20). -/
  ack : Bool
deriving DecidableEq, Repr

/-- The framing states of Port L (R161). -/
inductive Framing where
  | inactive
  | unsynced
  | idle
  | opened
  | discard
  | ending
  | held
  | heldBroken
deriving DecidableEq, Repr

/-- Port L (R161). -/
structure PortL where
  framing : Framing
  /-- The inbound latch: EMPTY, or FULL with one byte. -/
  latch : Option Byte
  buffer : Buffer
  outLatch : Byte
  outFull : Bool
  /-- The outbound cursor: none, or SENDING with the number of bytes consumed. -/
  cursor : Option Nat
deriving DecidableEq, Repr

/-! ### Start control, the input levels and the whole state (chapter 10) -/

/-- The hub states (R174). -/
inductive HubState where
  | start
  | ready
  | lowSupply
deriving DecidableEq, Repr

/-- Where VDD stands against the two levels of the supply monitor (10.6). -/
inductive Supply where
  | belowRetain
  | belowRun
  | aboveRun
deriving DecidableEq, Repr

/-- The levels of the input pins that the hub reads as levels. True is asserted. -/
structure Inputs where
  supply : Supply
  /-- RST#. -/
  rst : Bool
  /-- HOLD (R64). -/
  hold : Bool
  /-- PSEL1:0 (R111). -/
  psel : Profile
  /-- LFRM# (R163, R171). -/
  lfrm : Bool
  /-- LACK# (R162). -/
  lack : Bool
deriving DecidableEq, Repr

/-- The state of the hub. -/
structure State where
  hubState : HubState
  origin : Origin
  inputs : Inputs
  devices : PerDevice (Option Device)
  /-- The walker cursor (R39). -/
  cursor : DevNum
  /-- The claim table (R92). -/
  claims : PerDevice (Option Claim)
  /-- The late marks (R93). -/
  late : PerDevice (PerPort LateMark)
  profiles : ProfileController
  /-- The transaction in progress (R58). -/
  txn : Option Txn
  /-- The frame on the link: none between frames and while the link is idle (R52). -/
  link : Option LinkFrame
  /-- Rotation next (R63). -/
  rotation : Rotation
  ports : PerPort PortSide
  /-- The port rotation (R126). -/
  portRotation : Port
  portH : PortH
  portL : PortL
  bankA : Bank
  bankB : Bank
  save : SaveUnit
  /-- The commands that are waiting, first in, first out. The model's own field (log entry 17). -/
  pending : List Instr
deriving DecidableEq, Repr

/-- No command of this block faults: the manual names no event that stops the hub. -/
inductive Fault where
deriving DecidableEq, Repr

/-- The reasons for which a command has no meaning. -/
inductive Refusal where
  /-- Raised by exec alone, for a command that has no meaning yet. Safe: the machine stops. -/
  | notModelled (mnemonic : String)
deriving DecidableEq, Repr

/-- What a command's meaning answers. -/
abbrev Result := Host.Outcome State Fault Refusal

/-! ### Cold-start values (the "Cold start" column of each field table) -/

/-- The same thing for every device. -/
def PerDevice.const {α : Type} (a : α) : PerDevice α := ⟨a, a, a, a, a, a⟩

/-- A port's queues, notice list, mask and enables at a cold start (R146, R147, R73). -/
def PortSide.cold : PortSide :=
  { requests := [], outstanding := [], responses := [], manual := [], notices := []
    mask := 1023, lost := false, responseEnable := false, noticeEnable := false }

/-- Port H during START (R148, R159). -/
def PortH.cold : PortH :=
  { address := 92, phase := .inactive, unsynced := false, buffer := .empty, cursor := .none, stopped := false
    ack := false }

/-- Port L during START (R161, R171). -/
def PortL.cold : PortL :=
  { framing := .inactive, latch := none, buffer := .empty, outLatch := 0, outFull := false, cursor := none }

/-- The profile controller with origin NO_IMAGE (R110, R124). -/
def ProfileController.cold : ProfileController :=
  { source := .requests, target := 0, lineLevel := 0, candidate := none, candidateTime := 0, transition := none }

/-- The state of saves at a cold start (R180). -/
def SaveUnit.cold : SaveUnit :=
  { phase := .idle, record := none, lastOutcome := .none, lastSequence := 0 }

/-- The machine right after reset: in START (R174), with every volatile field at its cold-start value, RST# released and
VDD above the run level, so that the start steps can complete. The input levels and the banks' content are the model's
choice (log entry 3). -/
def State.reset : State :=
  { hubState := .start
    origin := .noImage
    inputs := { supply := .aboveRun, rst := false, hold := false, psel := 0, lfrm := false, lack := false }
    devices := PerDevice.const none
    cursor := 0
    claims := PerDevice.const none
    late := PerDevice.const ⟨.none, .none⟩
    profiles := ProfileController.cold
    txn := none
    link := none
    rotation := .pushWalker
    ports := ⟨PortSide.cold, PortSide.cold⟩
    portRotation := .h
    portH := PortH.cold
    portL := PortL.cold
    bankA := .invalid
    bankB := .invalid
    save := SaveUnit.cold
    pending := [] }

end Sys2Proof.Machine
end

