-- ==== Sys2Proof/Machine/Ops.lean ====
section
/-! DEFINITION. The named operations over the state: the tables by device and by port, entry lists, answers and notices. -/

namespace Sys2Proof.Machine

/-! ### Tables by device and by port -/

/-- The device numbers in ascending order. -/
def devNums : List DevNum := [0, 1, 2, 3, 4, 5]

/-- The device number that a number names, if it is 0 to 5 (R1). -/
def devNum? (n : Nat) : Option DevNum :=
  if h : n < 6 then some ⟨n, h⟩ else none

def PerDevice.get {α : Type} (t : PerDevice α) (d : DevNum) : α :=
  match d.val with
  | 0 => t.d0
  | 1 => t.d1
  | 2 => t.d2
  | 3 => t.d3
  | 4 => t.d4
  | _ => t.d5

def PerDevice.set {α : Type} (t : PerDevice α) (d : DevNum) (a : α) : PerDevice α :=
  match d.val with
  | 0 => { t with d0 := a }
  | 1 => { t with d1 := a }
  | 2 => { t with d2 := a }
  | 3 => { t with d3 := a }
  | 4 => { t with d4 := a }
  | _ => { t with d5 := a }

/-- The table whose row d is f d. -/
def PerDevice.ofFn {α : Type} (f : DevNum → α) : PerDevice α :=
  ⟨f 0, f 1, f 2, f 3, f 4, f 5⟩

/-- Does some device number satisfy f? -/
def anyDevice (f : DevNum → Bool) : Bool :=
  f 0 || f 1 || f 2 || f 3 || f 4 || f 5

/-- The sum of f over the six device numbers. -/
def sumDevices (f : DevNum → Nat) : Nat :=
  f 0 + f 1 + f 2 + f 3 + f 4 + f 5

/-- The other port. -/
def otherPort : Port → Port
  | .h => .l
  | .l => .h

def PerPort.get {α : Type} (t : PerPort α) (p : Port) : α :=
  match p with
  | .h => t.h
  | .l => t.l

def PerPort.set {α : Type} (t : PerPort α) (p : Port) (a : α) : PerPort α :=
  match p with
  | .h => { t with h := a }
  | .l => { t with l := a }

/-! ### Entries -/

/-- Is the entry PENDING? -/
def Entry.isPending (e : Entry) : Bool :=
  match e.state with
  | .pending => true
  | _ => false

/-- Is the entry IN_FLIGHT? -/
def Entry.isInFlight (e : Entry) : Bool :=
  match e.state with
  | .inFlight _ _ => true
  | _ => false

/-- Is the entry APPLIED? -/
def Entry.isApplied (e : Entry) : Bool :=
  match e.state with
  | .applied => true
  | _ => false

/-- Is the entry FAILED? -/
def Entry.isFailed (e : Entry) : Bool :=
  match e.state with
  | .failed => true
  | _ => false

/-- Is the entry settled: APPLIED or FAILED (R24)? -/
def Entry.isSettled (e : Entry) : Bool := e.isApplied || e.isFailed

/-- The desired value of an entry under the profile in effect p, from its committed slots alone (R9, R109). -/
def Entry.desired (e : Entry) (p : Profile) : Value :=
  match p.val with
  | 0 => e.base
  | 1 => e.override1.getD e.base
  | 2 => e.override2.getD e.base
  | _ => e.override3.getD e.base

/-- What an override slot holds after it is given a content (R8). -/
def SlotContent.toOverride : SlotContent → Option Value
  | .value v => some v
  | .clear => none

/-- Stores a content in a committed slot (R8). Slot 0 always holds a value. -/
def Entry.commitSlot (slot : Fin 4) (c : SlotContent) (e : Entry) : Entry :=
  match slot.val with
  | 0 =>
    match c with
    | .value v => { e with base := v }
    | .clear => e
  | 1 => { e with override1 := c.toOverride }
  | 2 => { e with override2 := c.toOverride }
  | _ => { e with override3 := c.toOverride }

/-- Fills a staged slot, replacing what it held (R11, R42). -/
def Entry.stageSlot (slot : Fin 4) (c : SlotContent) (e : Entry) : Entry :=
  match slot.val with
  | 0 =>
    match c with
    | .value v => { e with stagedBase := some v }
    | .clear => e
  | 1 => { e with staged1 := some c }
  | 2 => { e with staged2 := some c }
  | _ => { e with staged3 := some c }

/-- Empties every staged slot (R11). -/
def Entry.clearStaged (e : Entry) : Entry :=
  { e with stagedBase := none, staged1 := none, staged2 := none, staged3 := none }

/-- What an override holds once its staged content, if any, is moved into it (R11). -/
def stagedInto (staged : Option SlotContent) (current : Option Value) : Option Value :=
  match staged with
  | some c => c.toOverride
  | none => current

/-- Moves every filled staged slot into its committed slot and empties the staged slots (R11, R100 step 1). -/
def Entry.commitStaged (e : Entry) : Entry :=
  Entry.clearStaged
    { e with
      base := e.stagedBase.getD e.base
      override1 := stagedInto e.staged1 e.override1
      override2 := stagedInto e.staged2 e.override2
      override3 := stagedInto e.staged3 e.override3 }

/-- Does the entry hold a staged content in some slot? -/
def Entry.hasStaged (e : Entry) : Bool :=
  e.stagedBase.isSome || e.staged1.isSome || e.staged2.isSome || e.staged3.isSome

/-- Exact lookup in an entry list (R6). -/
def findEntry (r : Register) (es : List Entry) : Option Entry :=
  es.find? (fun e => e.register == r)

/-- Onward lookup in an entry list held in ascending order (R6). -/
def findOnward (r : Register) (es : List Entry) : Option Entry :=
  es.find? (fun e => decide (r.toNat ≤ e.register.toNat))

/-- Changes the entry of one register. -/
def updateEntry (r : Register) (f : Entry → Entry) (es : List Entry) : List Entry :=
  es.map (fun e => if e.register = r then f e else e)

/-- Inserts an entry at its ordered place (R5, R16). -/
def insertEntry (e : Entry) : List Entry → List Entry
  | [] => [e]
  | x :: xs => if e.register.toNat < x.register.toNat then e :: x :: xs else x :: insertEntry e xs

/-- Takes an entry out of a list; the others keep their order (R17). -/
def removeEntry (r : Register) (es : List Entry) : List Entry :=
  es.filter (fun e => e.register != r)

/-! ### Devices -/

def Device.updateEntry (r : Register) (f : Entry → Entry) (dv : Device) : Device :=
  { dv with entries := Machine.updateEntry r f dv.entries }

/-- The number of FAILED entries (R34, R37). -/
def Device.failedCount (dv : Device) : Nat := dv.entries.countP Entry.isFailed

def Device.anyFailed (dv : Device) : Bool := dv.entries.any Entry.isFailed

def Device.anyPending (dv : Device) : Bool := dv.entries.any Entry.isPending

/-- Is some entry PENDING or IN_FLIGHT? -/
def Device.anyUnsettled (dv : Device) : Bool := dv.entries.any (fun e => e.isPending || e.isInFlight)

def Device.markCount (dv : Device) : Nat := dv.entries.countP Entry.mark

def State.device (s : State) (d : DevNum) : Option Device := s.devices.get d

def State.setDevice (d : DevNum) (dv : Device) (s : State) : State :=
  { s with devices := s.devices.set d (some dv) }

/-- Changes a device record; an ABSENT one stays ABSENT. -/
def State.modDevice (d : DevNum) (f : Device → Device) (s : State) : State :=
  match s.device d with
  | some dv => s.setDevice d (f dv)
  | none => s

/-- The defined device that a request's device operand names: none for an ABSENT device and for a number above 5 (R1). -/
def State.findDevice (s : State) (b : Byte) : Option (DevNum × Device) :=
  match devNum? b.toNat with
  | some d => (s.device d).map (fun dv => (d, dv))
  | none => none

/-- The number of entry records in use (R4). -/
def State.poolInUse (s : State) : Nat :=
  sumDevices (fun d => match s.device d with
    | some dv => dv.entries.length
    | none => 0)

def State.claim (s : State) (d : DevNum) : Option Claim := s.claims.get d

def State.setClaim (d : DevNum) (c : Option Claim) (s : State) : State :=
  { s with claims := s.claims.set d c }

def State.claimed (s : State) (d : DevNum) : Bool := (s.claim d).isSome

def State.lateMark (s : State) (d : DevNum) (p : Port) : LateMark := (s.late.get d).get p

def State.setLate (d : DevNum) (p : Port) (m : LateMark) (s : State) : State :=
  { s with late := s.late.set d ((s.late.get d).set p m) }

/-! ### Ports: answers (R131) -/

def State.port (s : State) (p : Port) : PortSide := s.ports.get p

def State.modPort (p : Port) (f : PortSide → PortSide) (s : State) : State :=
  { s with ports := s.ports.set p (f (s.ports.get p)) }

def State.setPortH (q : PortH) (s : State) : State := { s with portH := q }

def State.setPortL (q : PortL) (s : State) : State := { s with portL := q }

/-- The answer of the request being taken joins the tail of its port's response queue (R131). -/
def State.respond (p : Port) (tag : Byte) (o : OutcomeCode) (pl : Payload) (s : State) : State :=
  s.modPort p (fun q => { q with responses := q.responses ++ [⟨tag, o, pl⟩] })

/-- Answers every outstanding request to which f gives an answer, in the order in which the requests were taken: each
answer joins the response queue as the request leaves the outstanding set (R130, R131). -/
def PortSide.answer (f : Outstanding → Option (OutcomeCode × Payload)) (q : PortSide) : PortSide :=
  { q with
    outstanding := q.outstanding.filter (fun o => (f o).isNone)
    responses := q.responses ++ q.outstanding.filterMap (fun o => (f o).map (fun a => ⟨o.tag, a.1, a.2⟩)) }

/-- Answers outstanding requests of one port. -/
def State.answerPort (p : Port) (f : Outstanding → Option (OutcomeCode × Payload)) (s : State) : State :=
  s.modPort p (PortSide.answer f)

/-- Answers outstanding requests of both ports. -/
def State.answer (f : Outstanding → Option (OutcomeCode × Payload)) (s : State) : State :=
  (s.answerPort .h f).answerPort .l f

/-- A request that its rule leaves outstanding joins its port's set (R130). -/
def State.await (p : Port) (o : Outstanding) (s : State) : State :=
  s.modPort p (fun q => { q with outstanding := q.outstanding ++ [o] })

/-- Has the port 4 outstanding deferred requests (R130)? -/
def State.capFull (s : State) (p : Port) : Bool :=
  decide (Config.outstandingCap ≤ (s.port p).outstanding.length)

/-! ### Notices (R137 to R141) -/

def Notice.kind : Notice → NoticeKind
  | .started _ => .started
  | .deviceLost _ => .deviceLost
  | .loadDone _ _ => .loadDone
  | .entryFailed _ _ => .entryFailed
  | .deviceFenced _ => .deviceFenced
  | .claimExpired _ => .claimExpired
  | .claimBroken _ => .claimBroken
  | .profileSettled _ _ => .profileSettled
  | .saveDone _ _ => .saveDone
  | .supplyRestored => .supplyRestored

def Notice.device : Notice → Option DevNum
  | .started _ => none
  | .deviceLost d => some d
  | .loadDone d _ => some d
  | .entryFailed d _ => some d
  | .deviceFenced d => some d
  | .claimExpired d => some d
  | .claimBroken d => some d
  | .profileSettled _ _ => none
  | .saveDone _ _ => none
  | .supplyRestored => none

/-- Are two notices of the same kind for the same device, or of the same kind where it carries no device (R139)? -/
def Notice.sameKey (a b : Notice) : Bool := decide (a.kind = b.kind) && decide (a.device = b.device)

/-- The code of a notice kind (R192). -/
def NoticeKind.code : NoticeKind → Nat
  | .started => 1
  | .deviceLost => 2
  | .loadDone => 3
  | .entryFailed => 4
  | .deviceFenced => 5
  | .claimExpired => 6
  | .claimBroken => 7
  | .profileSettled => 8
  | .saveDone => 9
  | .supplyRestored => 10

/-- Does a mask admit a kind (R138, R189)? -/
def maskAdmits (mask : BitVec 10) (k : NoticeKind) : Bool :=
  match k with
  | .started => true
  | _ => mask.getLsbD (k.code - 1)

/-- Offers a notice to a port's list: turned away by the mask (R138), coalesced (R139), added, or turned away from a full
list with the lost mark set (R140). -/
def PortSide.post (n : Notice) (q : PortSide) : PortSide :=
  if maskAdmits q.mask n.kind then
    if q.notices.any (Notice.sameKey n) then
      { q with notices := q.notices.map (fun m => if n.sameKey m then n else m) }
    else if q.notices.length < Config.noticeList then
      { q with notices := q.notices ++ [n] }
    else
      { q with lost := true }
  else q

/-- Offers a notice to one port alone. -/
def State.postTo (p : Port) (n : Notice) (s : State) : State := s.modPort p (PortSide.post n)

/-- Offers a notice to both ports (R138). -/
def State.post (n : Notice) (s : State) : State := (s.postTo .h n).postTo .l n

end Sys2Proof.Machine
end

