-- ==== Sys2Proof/Machine/Operands.lean ====
section
/-! DEFINITION. Request frames: their kinds, their operands and their validation (R128, R129, R189, R190), and the encoder. -/

namespace Sys2Proof.Machine

/-- The kind code of a request kind (R189). -/
def ReqKind.code : ReqKind → Byte
  | .readStatus => 0x01
  | .readNotices => 0x02
  | .setNoticeMask => 0x03
  | .setAttention => 0x04
  | .defineDevice => 0x10
  | .removeDevice => 0x11
  | .addEntry => 0x12
  | .removeEntry => 0x13
  | .setEntryAttr => 0x14
  | .readEntry => 0x15
  | .write => 0x20
  | .activate => 0x21
  | .deactivate => 0x22
  | .resync => 0x23
  | .resetDevice => 0x24
  | .readDevice => 0x30
  | .rawWrite => 0x31
  | .claim => 0x40
  | .commit => 0x41
  | .abandon => 0x42
  | .selectProfile => 0x50
  | .setProfileSource => 0x51
  | .saveImage => 0x60
  | .restart => 0x61

/-- The 24 kinds in the order of R189's table. -/
def ReqKind.all : List ReqKind :=
  [.readStatus, .readNotices, .setNoticeMask, .setAttention, .defineDevice, .removeDevice, .addEntry, .removeEntry,
   .setEntryAttr, .readEntry, .write, .activate, .deactivate, .resync, .resetDevice, .readDevice, .rawWrite, .claim,
   .commit, .abandon, .selectProfile, .setProfileSource, .saveImage, .restart]

/-- The kind that a kind byte names; every other byte is an unknown kind (R189). -/
def ReqKind.ofCode (b : Byte) : Option ReqKind := ReqKind.all.find? (fun k => k.code == b)

/-- The kinds accepted from Port H alone (R128 step 4). -/
def ReqKind.hOnly : ReqKind → Bool
  | .defineDevice | .addEntry | .removeEntry | .setEntryAttr | .removeDevice | .setProfileSource | .saveImage
  | .restart => true
  | _ => false

/-- A request that has passed the validation of R190, with its operand fields (R189). -/
inductive Request where
  | readStatus (device : Byte)
  | readNotices
  | setNoticeMask (mask : BitVec 10)
  | setAttention (response notice : Bool)
  | defineDevice (device checkRegister : Byte) (marker : Value) (speedClass verifyPolicy retryLimit probeInterval fenceLimit : Byte)
  | removeDevice (device : Byte)
  | addEntry (device register owner : Byte) (base verifyMask : Value)
  | removeEntry (device register : Byte)
  | setEntryAttr (device register owner : Byte) (verifyMask : Value)
  | readEntry (device register : Byte) (onward : Bool)
  | write (device register slot : Byte) (wait clear : Bool) (value : Value)
  | activate (device : Byte) (wait : Bool)
  | deactivate (device : Byte)
  | resync (device : Byte) (wait : Bool)
  | resetDevice (device : Byte) (wait : Bool)
  | readDevice (device register : Byte)
  | rawWrite (device register : Byte) (value : Value)
  | claim (device lease : Byte)
  | commit (device : Byte) (wait : Bool)
  | abandon (device : Byte)
  | selectProfile (profile : Byte) (wait : Bool)
  | setProfileSource (source : Byte)
  | saveImage
  | restart
deriving DecidableEq, Repr

def Request.kind : Request → ReqKind
  | .readStatus _ => .readStatus
  | .readNotices => .readNotices
  | .setNoticeMask _ => .setNoticeMask
  | .setAttention _ _ => .setAttention
  | .defineDevice _ _ _ _ _ _ _ _ => .defineDevice
  | .removeDevice _ => .removeDevice
  | .addEntry _ _ _ _ _ => .addEntry
  | .removeEntry _ _ => .removeEntry
  | .setEntryAttr _ _ _ _ => .setEntryAttr
  | .readEntry _ _ _ => .readEntry
  | .write _ _ _ _ _ _ => .write
  | .activate _ _ => .activate
  | .deactivate _ => .deactivate
  | .resync _ _ => .resync
  | .resetDevice _ _ => .resetDevice
  | .readDevice _ _ => .readDevice
  | .rawWrite _ _ _ => .rawWrite
  | .claim _ _ => .claim
  | .commit _ _ => .commit
  | .abandon _ => .abandon
  | .selectProfile _ _ => .selectProfile
  | .setProfileSource _ => .setProfileSource
  | .saveImage => .saveImage
  | .restart => .restart

/-! ### Fields of two bytes and flag bytes -/

/-- A 16-bit value from its two bytes, most significant first (R189). -/
def ofBytes (hi lo : Byte) : Value := hi ++ lo

/-- The most significant byte of a 16-bit value. -/
def hiByte (v : Value) : Byte := v.extractLsb' 8 8

/-- The least significant byte of a 16-bit value. -/
def loByte (v : Value) : Byte := v.extractLsb' 0 8

/-- The one flag of a wait flags or read flags byte, whose bits 7:1 are zero (R189, R190 case 4). -/
def flag1 (b : Byte) : Option Bool :=
  if b = 0 then some false else if b = 1 then some true else none

/-- The two flags, bit 0 and bit 1, of a write flags or attention flags byte, whose bits 7:2 are zero (R189, R190 case 4). -/
def flag2 (b : Byte) : Option (Bool × Bool) :=
  if b.toNat < 4 then some (b.getLsbD 0, b.getLsbD 1) else none

/-- The byte of one flag. -/
def flagByte1 (a : Bool) : Byte := if a then 1 else 0

/-- The byte of two flags, a in bit 0 and b in bit 1. -/
def flagByte2 (a b : Bool) : Byte := (if a then 1 else 0) + (if b then 2 else 0)

/-- The notice mask of its two bytes, whose bits 15:10 are zero (R189, R190 case 4). -/
def maskOfBytes (hi lo : Byte) : Option (BitVec 10) :=
  if (ofBytes hi lo).toNat < 1024 then some ((ofBytes hi lo).setWidth 10) else none

/-! ### Validation and operands -/

/-- The operands of a kind from the bytes after the tag: none when the length is not exactly the kind's or a zero field
holds a set bit (R190 cases 2 and 4). -/
def Request.ofOperands : ReqKind → List Byte → Option Request
  | .readStatus, [d] => some (.readStatus d)
  | .readNotices, [] => some .readNotices
  | .setNoticeMask, [a, b] => (maskOfBytes a b).map .setNoticeMask
  | .setAttention, [f] => (flag2 f).map (fun x => .setAttention x.1 x.2)
  | .defineDevice, [d, c, m1, m0, sp, vp, rl, pi, fl] => some (.defineDevice d c (ofBytes m1 m0) sp vp rl pi fl)
  | .removeDevice, [d] => some (.removeDevice d)
  | .addEntry, [d, r, o, b1, b0, m1, m0] => some (.addEntry d r o (ofBytes b1 b0) (ofBytes m1 m0))
  | .removeEntry, [d, r] => some (.removeEntry d r)
  | .setEntryAttr, [d, r, o, m1, m0] => some (.setEntryAttr d r o (ofBytes m1 m0))
  | .readEntry, [d, r, f] => (flag1 f).map (.readEntry d r)
  | .write, [d, r, sl, f, v1, v0] => (flag2 f).map (fun x => .write d r sl x.1 x.2 (ofBytes v1 v0))
  | .activate, [d, f] => (flag1 f).map (.activate d)
  | .deactivate, [d] => some (.deactivate d)
  | .resync, [d, f] => (flag1 f).map (.resync d)
  | .resetDevice, [d, f] => (flag1 f).map (.resetDevice d)
  | .readDevice, [d, r] => some (.readDevice d r)
  | .rawWrite, [d, r, v1, v0] => some (.rawWrite d r (ofBytes v1 v0))
  | .claim, [d, n] => some (.claim d n)
  | .commit, [d, f] => (flag1 f).map (.commit d)
  | .abandon, [d] => some (.abandon d)
  | .selectProfile, [p, f] => (flag1 f).map (.selectProfile p)
  | .setProfileSource, [x] => some (.setProfileSource x)
  | .saveImage, [] => some .saveImage
  | .restart, [] => some .restart
  | _, _ => none

/-- The operand bytes of a request (R189). -/
def Request.operands : Request → List Byte
  | .readStatus d => [d]
  | .readNotices => []
  | .setNoticeMask m => [hiByte (m.setWidth 16), loByte (m.setWidth 16)]
  | .setAttention r n => [flagByte2 r n]
  | .defineDevice d c m sp vp rl pi fl => [d, c, hiByte m, loByte m, sp, vp, rl, pi, fl]
  | .removeDevice d => [d]
  | .addEntry d r o b m => [d, r, o, hiByte b, loByte b, hiByte m, loByte m]
  | .removeEntry d r => [d, r]
  | .setEntryAttr d r o m => [d, r, o, hiByte m, loByte m]
  | .readEntry d r f => [d, r, flagByte1 f]
  | .write d r sl w c v => [d, r, sl, flagByte2 w c, hiByte v, loByte v]
  | .activate d w => [d, flagByte1 w]
  | .deactivate d => [d]
  | .resync d w => [d, flagByte1 w]
  | .resetDevice d w => [d, flagByte1 w]
  | .readDevice d r => [d, r]
  | .rawWrite d r v => [d, r, hiByte v, loByte v]
  | .claim d n => [d, n]
  | .commit d w => [d, flagByte1 w]
  | .abandon d => [d]
  | .selectProfile p w => [p, flagByte1 w]
  | .setProfileSource x => [x]
  | .saveImage => []
  | .restart => []

/-- The tag that the response to a frame carries: the frame's second byte where it is readable, else 255 (R129). -/
def Frame.tag (f : Frame) : Byte :=
  match f.bytes with
  | _ :: t :: _ => t
  | _ => Config.noTag

/-- Has the frame a readable tag (R129)? -/
def Frame.tagReadable (f : Frame) : Bool := f.tag != Config.noTag

/-- The kind that a frame's first byte names. -/
def Frame.kind (f : Frame) : Option ReqKind :=
  match f.bytes with
  | k :: _ => ReqKind.ofCode k
  | [] => none

/-- Does the frame name the request kind k: not broken, with a readable tag, its first byte the code of k? A frame that
names no kind is taken by BAD_FRAME_TAKE. -/
def Frame.names (f : Frame) (k : ReqKind) : Bool :=
  !f.broken && f.tagReadable && decide (f.kind = some k)

/-- Does the frame name some request kind? -/
def Frame.namesSome (f : Frame) : Bool :=
  !f.broken && f.tagReadable && f.kind.isSome

/-- The request of a frame, where the frame passes the validation of R190. -/
def Frame.request (f : Frame) : Option Request :=
  match f.bytes with
  | k :: t :: ops => if t.toNat < 240 then (ReqKind.ofCode k).bind (fun x => Request.ofOperands x ops) else none
  | _ => none

/-- The frame of a request with a tag (R189). -/
def Request.frame (r : Request) (tag : Byte) : Frame :=
  { bytes := r.kind.code :: tag :: r.operands, broken := false }

end Sys2Proof.Machine
end

