-- ==== Sys2Proof/Machine/Flags.lean ====
section
/-! DEFINITION. The conditions that the manual computes from the state: attention, the handshake lines, settled devices,
push work, the port to take from and the requester to grant. Each is a condition of the state, not a stored field. -/

namespace Sys2Proof.Machine

/-! ### Output levels -/

def State.ready (s : State) : Bool := decide (s.hubState = .ready)

/-- Is a port's attention output asserted: ATTN# for Port H, LINT for Port L (R145, R158, R170)? -/
def State.attention (s : State) (p : Port) : Bool :=
  s.ready &&
    (((s.port p).responseEnable && !(s.port p).responses.isEmpty) ||
     ((s.port p).noticeEnable && !(s.port p).notices.isEmpty))

def Buffer.isComplete : Buffer → Bool
  | .complete _ => true
  | _ => false

/-- Is LIBF asserted (R162)? -/
def State.libf (s : State) : Bool :=
  !s.ready || decide (s.portL.framing = .unsynced) || s.portL.latch.isSome || s.portL.buffer.isComplete

/-- Is LOBF asserted (R162)? -/
def State.lobf (s : State) : Bool := s.ready && s.portL.outFull

/-- The byte that the hub drives on LD7:0, none while it releases the lines (R162). -/
def State.ldDriven (s : State) : Option Byte :=
  if s.ready && s.inputs.lack then some s.portL.outLatch else none

/-- The device whose select line SEL5:0 is asserted, none while the link is idle (R52). -/
def State.selected (s : State) : Option DevNum := s.link.map LinkFrame.device

/-! ### Devices -/

/-- Is a device settled (R34)? -/
def Device.settled (dv : Device) : Bool :=
  (decide (dv.state = .running) || decide (dv.state = .diverged)) && !dv.anyUnsettled

/-- Is the device numbered d defined and settled? -/
def State.settled (s : State) (d : DevNum) : Bool :=
  match s.device d with
  | some dv => dv.settled
  | none => false

/-- Is a device in one of the four states in which a switch marks its changed entries (R117)? -/
def DevState.managed : DevState → Bool
  | .loading | .running | .diverged | .suspect => true
  | .dormant | .fenced => false

/-- Is the walker's next transaction for a device its marker transaction (R36, R39)? -/
def Device.inMarkerPhase (dv : Device) : Bool :=
  decide (dv.state = .loading) && decide (dv.phase = .marker)

/-- Has an unclaimed device with this record push work (R38, conditions 1 and 3)? -/
def Device.hasPushWork (dv : Device) : Bool :=
  (decide (dv.state = .loading) || decide (dv.state = .running) || decide (dv.state = .diverged)) &&
    (dv.anyPending || dv.inMarkerPhase)

/-- Has the device push work (R38)? -/
def State.pushWork (s : State) (d : DevNum) : Bool :=
  match s.device d with
  | some dv => dv.hasPushWork && !s.claimed d
  | none => false

/-- Does the device's probe timer run (R76)? The hub must be READY as well. -/
def Device.timerRuns (dv : Device) : Bool :=
  dv.state.managed && decide (dv.params.probeInterval ≠ 0) && !dv.probeDue

/-- Has the device numbered d a probe due? -/
def State.probeDue (s : State) (d : DevNum) : Bool :=
  match s.device d with
  | some dv => dv.probeDue
  | none => false

/-- Is a marker transaction of the device in progress that no request has marked for discard? It is then the marker
transaction of the device's present load, and the load phase stays MARKER (R36, R60). -/
def State.markerGranted (s : State) (d : DevNum) : Bool :=
  match s.txn with
  | some t => decide (t.kind = .marker) && decide (t.device = d) && !t.discard
  | none => false

/-- Does any entry carry a transition mark? -/
def State.anyMark (s : State) : Bool :=
  anyDevice (fun d => match s.device d with
    | some dv => dv.entries.any Entry.mark
    | none => false)

/-- Is some device deferred in a transition? -/
def Transition.anyDeferred (t : Transition) : Bool := anyDevice t.deferred.get

/-! ### The port to take from (R127) -/

/-- Can the port be taken from (R127)? -/
def State.canTake (s : State) (p : Port) : Bool :=
  s.ready && !(s.port p).requests.isEmpty &&
    decide ((s.port p).responses.length + (s.port p).outstanding.length < Config.answerCap)

/-- The port from which the request engine takes its next frame (R127): the port that the rotation names, if it can be taken
from, else the other port, if that one can. -/
def State.nextTake (s : State) : Option Port :=
  if s.canTake s.portRotation then some s.portRotation
  else if s.canTake (otherPort s.portRotation) then some (otherPort s.portRotation)
  else none

/-! ### The requester to grant (R61 to R63) -/

/-- Can the arbiter make a grant: the link is free, the hub READY and HOLD not asserted (R61)? -/
def State.linkFree (s : State) : Bool := s.txn.isNone && s.ready && !s.inputs.hold

/-- The lowest-numbered device with a probe due (R62). -/
def State.nextProbe (s : State) : Option DevNum := devNums.find? s.probeDue

/-- The device number after d, with 5 followed by 0 (R39). -/
def nextDev (d : DevNum) : DevNum :=
  match d.val with
  | 0 => 1
  | 1 => 2
  | 2 => 3
  | 3 => 4
  | 4 => 5
  | _ => 0

/-- The device numbers going upward from d, wrapping from 5 to 0 (R39). -/
def devicesFrom (d : DevNum) : List DevNum :=
  let d1 := nextDev d
  let d2 := nextDev d1
  let d3 := nextDev d2
  let d4 := nextDev d3
  [d, d1, d2, d3, d4, nextDev d4]

/-- The device that the push walker takes: the first with push work from the cursor upward (R39). -/
def State.walkerChoice (s : State) : Option DevNum := (devicesFrom s.cursor).find? s.pushWork

/-- Has a requester of the rotation work (R61)? -/
def State.hasWork (s : State) : Rotation → Bool
  | .pushWalker => s.walkerChoice.isSome
  | .manualH => !(s.port .h).manual.isEmpty
  | .manualL => !(s.port .l).manual.isEmpty

/-- The requester after another in the cyclic order of R63. -/
def Rotation.next : Rotation → Rotation
  | .pushWalker => .manualH
  | .manualH => .manualL
  | .manualL => .pushWalker

/-- The requester that the rotation grants: the first with work from rotation next on (R63). -/
def State.rotationChoice (s : State) : Option Rotation :=
  [s.rotation, s.rotation.next, s.rotation.next.next].find? s.hasWork

/-- The requester that the arbiter grants by rotation now: none while no grant can be made or a probe is due (R61 to R63). -/
def State.rotationGrant (s : State) : Option Rotation :=
  if s.linkFree && s.nextProbe.isNone then s.rotationChoice else none

end Sys2Proof.Machine
end

