-- ==== Sys2Proof/Machine/Formats.lean ====
section
/-! DEFINITION. The byte layouts of responses, notices and payloads (R191 to R194), the 27-bit link frame and its parity
(R53 to R55, R195). -/

namespace Sys2Proof.Machine

/-- A byte holding a number. -/
def byteOf (n : Nat) : Byte := BitVec.ofNat 8 n

/-- The two bytes of a 16-bit value, most significant first. -/
def twoBytes (v : Value) : List Byte := [hiByte v, loByte v]

/-- The four bytes of a 32-bit number, most significant first. -/
def fourBytes (n : Nat) : List Byte := [byteOf (n / 16777216), byteOf (n / 65536), byteOf (n / 256), byteOf n]

/-- An optional value, sent as 0x0000 when absent. -/
def optBytes (v : Option Value) : List Byte := twoBytes (v.getD 0)

def boolBit (b : Bool) (weight : Nat) : Nat := if b then weight else 0

/-- The outcome codes (R191). -/
def OutcomeCode.code : OutcomeCode → Nat
  | .ok => 0x00
  | .staged => 0x01
  | .superseded => 0x02
  | .failed => 0x03
  | .fenced => 0x04
  | .notActive => 0x05
  | .denied => 0x06
  | .held => 0x07
  | .busy => 0x08
  | .notFound => 0x09
  | .duplicate => 0x0A
  | .noSpace => 0x0B
  | .notPermitted => 0x0C
  | .badRequest => 0x0D
  | .badFrame => 0x0E
  | .expired => 0x0F
  | .broken => 0x10
  | .aborted => 0x11
  | .managed => 0x12
  | .wrongState => 0x13

/-! ### Notice records (R192) -/

def Origin.code : Origin → Nat
  | .noImage => 0
  | .bankA => 1
  | .bankB => 2

/-- The detail field of a notice record (R192). -/
def Notice.detail : Notice → Nat
  | .started o => o.code
  | .deviceLost _ => 0
  | .loadDone _ n => n
  | .entryFailed _ r => r.toNat
  | .deviceFenced _ => 0
  | .claimExpired _ => 0
  | .claimBroken _ => 0
  | .profileSettled p n => p.val * 16384 + (if n = 0 then 0 else 8192) + n
  | .saveDone ok n => (if ok then 0 else 32768) + n % 32768
  | .supplyRestored => 0

/-- The device byte of a notice record: 255 for the kinds that carry no device (R192). -/
def Notice.deviceByte (n : Notice) : Byte :=
  match n.device with
  | some d => byteOf d.val
  | none => 255

/-- A notice record of 4 bytes (R192). -/
def Notice.record (n : Notice) : List Byte :=
  [byteOf n.kind.code, n.deviceByte] ++ twoBytes (BitVec.ofNat 16 n.detail)

/-! ### Entry and status payloads (R193, R194) -/

def Owner.code : Owner → Nat
  | .h => 1
  | .l => 2
  | .any => 3

def EntryStatus.code : EntryStatus → Nat
  | .pending => 0
  | .inFlight => 1
  | .applied => 2
  | .failed => 3

/-- The code of a staged override: absent, a value, or CLEAR (R193). -/
def stagedCode : Option SlotContent → Nat
  | none => 0
  | some (.value _) => 1
  | some .clear => 2

/-- The value of a staged override, absent for CLEAR (R193). -/
def stagedValue : Option SlotContent → Option Value
  | some (.value v) => some v
  | _ => none

/-- The payload of a READ_ENTRY answered OK, 28 bytes (R193). -/
def EntryView.bytes (v : EntryView) : List Byte :=
  [v.register, byteOf v.owner.code, byteOf v.state.code, byteOf v.attempts,
   byteOf (boolBit v.override1.isSome 1 + boolBit v.override2.isSome 2 + boolBit v.override3.isSome 4 +
     boolBit v.applied.isSome 8 + boolBit v.stagedBase.isSome 16),
   byteOf (stagedCode v.staged1 + 4 * stagedCode v.staged2 + 16 * stagedCode v.staged3)] ++
  twoBytes v.verifyMask ++ twoBytes v.base ++ optBytes v.override1 ++ optBytes v.override2 ++ optBytes v.override3 ++
  twoBytes v.desired ++ optBytes v.applied ++ optBytes v.stagedBase ++ optBytes (stagedValue v.staged1) ++
  optBytes (stagedValue v.staged2) ++ optBytes (stagedValue v.staged3)

/-- The codes of the device states; 0 is ABSENT (R194). -/
def DevState.code : DevState → Nat
  | .dormant => 1
  | .loading => 2
  | .running => 3
  | .diverged => 4
  | .suspect => 5
  | .fenced => 6

def devStateCode : Option DevState → Nat
  | none => 0
  | some x => x.code

def LoadPhase.code : LoadPhase → Nat
  | .entries => 0
  | .marker => 1
  | .confirmed => 2

def SaveOutcome.code : SaveOutcome → Nat
  | .none => 0
  | .ok => 1
  | .failed => 2

def portCode : Port → Nat
  | .h => 1
  | .l => 2

/-- The hub form, 18 bytes (R194). -/
def HubForm.bytes (f : HubForm) : List Byte :=
  [byteOf 1,
   byteOf (boolBit (decide (f.source = .lines)) 1 + boolBit f.transition.isSome 2 + boolBit f.saving 4 + boolBit f.hold 8),
   byteOf f.target.val,
   byteOf (match f.transition with
     | some p => p.val
     | none => 0),
   byteOf f.lastOutcome.code] ++
  fourBytes f.lastSequence ++ [byteOf f.origin.code] ++ twoBytes (BitVec.ofNat 16 f.poolInUse) ++
  devNums.map (fun d => byteOf (devStateCode (f.devices.get d)))

/-- The device form, 13 bytes (R194). -/
def DeviceForm.bytes (f : DeviceForm) : List Byte :=
  [byteOf f.state.code, byteOf f.phase.code, byteOf f.profile.val,
   byteOf (match f.claim with
     | some c => portCode c.1
     | none => 0),
   byteOf (match f.claim with
     | some c => c.2
     | none => 0),
   byteOf f.losses, byteOf f.fenceLimit, byteOf f.probeInterval, byteOf f.probeRemaining,
   byteOf f.pending, byteOf f.inFlight, byteOf f.applied, byteOf f.failed]

/-! ### Responses (R191) -/

/-- The payload bytes (R191 to R194). -/
def Payload.bytes : Payload → List Byte
  | .none => []
  | .value v => twoBytes v
  | .count n => [byteOf n]
  | .unapplied n => twoBytes (BitVec.ofNat 16 n)
  | .sequence n => fourBytes n
  | .notices ns more lost => byteOf (ns.length + boolBit lost 64 + boolBit more 128) :: ns.flatMap Notice.record
  | .entry v => v.bytes
  | .hub f => f.bytes
  | .device f => f.bytes

/-- The number of bytes of a response after its length byte (R191). -/
def Response.length (r : Response) : Nat := 2 + r.payload.bytes.length

/-- A response as it is sent, from its length byte (R154, R191). -/
def Response.bytes (r : Response) : List Byte :=
  byteOf r.length :: r.tag :: byteOf r.outcome.code :: r.payload.bytes

/-- The byte of a response at a position, counting the length byte as position 0 (R168). -/
def Response.byteAt (r : Response) (k : Nat) : Byte := r.bytes.getD k 0

/-! ### The link frame (R53 to R55, R195) -/

/-- The number of ones among the low n bits of a word. -/
def onesBelow {w : Nat} (b : BitVec w) : Nat → Nat
  | 0 => 0
  | n + 1 => (if b.getLsbD n then 1 else 0) + onesBelow b n

/-- The parity bit that the hub sets in a write frame: the ones among data and parity are even (R55). -/
def parityBit (v : Value) : Bool := decide (onesBelow v 16 % 2 = 1)

/-- The 17 bits of data and parity of a frame that carries a value with good parity. -/
def sampleOf (v : Value) : SampledBits := v ++ BitVec.ofBool (parityBit v)

/-- The result of a read frame: its 16 data bits, or none for a parity error (R54, R55). -/
def readResult (b : SampledBits) : Option Value :=
  if onesBelow b 17 % 2 = 0 then some (b.extractLsb' 1 16) else none

/-- The operation field (R53). -/
def LinkOp.bits : LinkOp → BitVec 2
  | .write => 1
  | .read => 2

/-- The 10 bits that the hub drives first in every frame: operation and register address (R53, R54). -/
def LinkFrame.header (f : LinkFrame) : BitVec 10 := f.op.bits ++ f.register

/-- The 27 bits of a write frame (R53, R195). -/
def LinkFrame.writeBits (f : LinkFrame) : LinkBits := f.header ++ sampleOf f.data

/-! ### The byte that Port H sends (R155, R157) -/

/-- The byte that Port H drives on SDA next: none while it releases SDA. -/
def State.sdaByte (s : State) : Option Byte :=
  if s.portH.phase = .read && !s.portH.stopped then
    match s.portH.cursor with
    | .none => none
    | .fill => some 0
    | .sending n =>
      match (s.port .h).responses with
      | r :: _ => some (r.byteAt n)
      | [] => some 0
  else none

end Sys2Proof.Machine
end

