-- ==== Sys2Proof/Machine/Coherence.lean ====
section
/-! DEFINITION. The coherence engine's shared operations: committed value changes (R26), loads (R35, R36), device states
(R33, R34), the judgement of a push (R28 to R31), waits (R44 to R46), and the clearing and completion of transitions that
follow them (R119, R121). -/

namespace Sys2Proof.Machine

/-! ### Committed value changes -/

/-- An entry whose desired value a happening has moved (R26). -/
def Entry.moved (e : Entry) : Entry :=
  match e.state with
  | .applied => { e with state := .pending }
  | .failed => { e with state := .pending, attempts := 0 }
  | .pending => { e with attempts := 0 }
  | .inFlight _ _ => e

/-- An entry after a happening that changes its slots by f and its device's profile in effect from p to p' (R10): compared
whole, the desired value before against the desired value after. Where the change of profile itself moves the desired
value and the device state is one of R117's first row, the entry is marked as well (R117, R120 step 4, log entry 15). -/
def Entry.change (f : Entry → Entry) (p p' : Profile) (st : DevState) (e : Entry) : Entry :=
  if (f e).desired p' = e.desired p then f e
  else if st.managed && decide ((f e).desired p' ≠ (f e).desired p) then { (f e).moved with mark := true }
  else (f e).moved

/-- Does a FENCED device's entry count as unapplied in such a happening (R117, R120)? -/
def Entry.countsUnapplied (f : Entry → Entry) (p p' : Profile) (e : Entry) : Bool :=
  decide ((f e).desired p' ≠ e.desired p) && decide ((f e).desired p' ≠ (f e).desired p)

/-- A device after its entries' slots change by f and its profile in effect becomes p' (R10). -/
def Device.change (f : Entry → Entry) (p' : Profile) (dv : Device) : Device :=
  { dv with profile := p', entries := dv.entries.map (Entry.change f dv.profile p' dv.state) }

/-- What such a happening adds to the transition's unapplied count: the changed entries of a FENCED device (R117). -/
def Device.unappliedBy (f : Entry → Entry) (p' : Profile) (dv : Device) : Nat :=
  if dv.state = .fenced then dv.entries.countP (Entry.countsUnapplied f dv.profile p') else 0

/-! ### Device states and load phases -/

/-- R33 and R36 on a device whose entries have changed; `granted` says that its marker transaction has been granted. -/
def Device.reexamine (granted : Bool) (dv : Device) : Device :=
  match dv.state with
  | .running => if dv.anyFailed then { dv with state := .diverged } else dv
  | .diverged => if dv.anyFailed then dv else { dv with state := .running }
  | .loading =>
    match dv.phase with
    | .entries => if dv.anyUnsettled then dv else { dv with phase := .marker }
    | .marker => if dv.anyPending && !granted then { dv with phase := .entries } else dv
    | .confirmed => dv
  | .dormant | .suspect | .fenced => dv

/-- The coherence engine re-examines a device (R18, R33, R36). -/
def State.reexamine (d : DevNum) (s : State) : State :=
  s.modDevice d (Device.reexamine (s.markerGranted d))

/-- The answer that a device becoming settled gives to a wait on it (R46, R101). -/
def settleAnswer (d : DevNum) (dv : Device) (o : Outstanding) : Option (OutcomeCode × Payload) :=
  match o.wait with
  | .settle d' count =>
    if d' = d then
      if dv.state = .diverged then some (.failed, .count dv.failedCount)
      else match count with
        | some n => some (.ok, .count n)
        | none => some (.ok, .none)
    else none
  | _ => none

/-- Answers the device-settle waits of a device that has become settled: settled now, and not in the state before the
happening (R34, R46). -/
def State.answerSettled (before : State) (d : DevNum) (s : State) : State :=
  match s.device d with
  | some dv => if dv.settled && !before.settled d then s.answer (settleAnswer d dv) else s
  | none => s

/-- Gives one answer to every entry wait on a device (R49 step 1, R84 step 3). -/
def entryWaitsOf (d : DevNum) (c : OutcomeCode) (o : Outstanding) : Option (OutcomeCode × Payload) :=
  match o.wait with
  | .entry d' _ _ => if d' = d then some (c, .none) else none
  | _ => none

/-- Gives one answer to every device-settle wait on a device (R49 step 2, R84 step 4). -/
def settleWaitsOf (d : DevNum) (c : OutcomeCode) (o : Outstanding) : Option (OutcomeCode × Payload) :=
  match o.wait with
  | .settle d' _ => if d' = d then some (c, .none) else none
  | _ => none

/-- Gives one answer to every entry wait on one entry (R18). -/
def entryWaitsOn (d : DevNum) (r : Register) (c : OutcomeCode) (o : Outstanding) : Option (OutcomeCode × Payload) :=
  match o.wait with
  | .entry d' r' _ => if d' = d ∧ r' = r then some (c, .none) else none
  | _ => none

/-- The answer to an entry wait on an entry that has become APPLIED or FAILED (R44). -/
def entryWaitAnswer (d : DevNum) (e : Entry) (o : Outstanding) : Option (OutcomeCode × Payload) :=
  match o.wait with
  | .entry d' r expected =>
    if d' = d ∧ r = e.register then
      match e.state, e.applied with
      | .applied, some v => some (if v = expected then .ok else .superseded, .value v)
      | .failed, _ => some (.failed, .none)
      | _, _ => none
    else none
  | _ => none

/-! ### Transition marks and completion -/

/-- Adds to the unapplied count of the transition in flight (R119). -/
def State.addUnapplied (n : Nat) (s : State) : State :=
  match s.profiles.transition with
  | some t => { s with profiles := { s.profiles with transition := some { t with unapplied := t.unapplied + n } } }
  | none => s

/-- The answer of a completed transition to its waiters (R121 step 2). -/
def completionAnswer (unapplied : Nat) (o : Outstanding) : Option (OutcomeCode × Payload) :=
  match o.wait with
  | .transition => some (if unapplied = 0 then (.ok, .none) else (.failed, .unapplied unapplied))
  | _ => none

/-- The completion test (R121): with no mark and no deferred device left, PROFILE_SETTLED is posted, the waiters are
answered and the record is removed. -/
def State.completionTest (s : State) : State :=
  match s.profiles.transition with
  | some t =>
    if s.anyMark || t.anyDeferred then s
    else
      let s1 := (s.post (.profileSettled t.target t.unapplied)).answer (completionAnswer t.unapplied)
      { s1 with profiles := { s1.profiles with transition := none } }
  | none => s

/-- Clears every transition mark of a device, counts them as unapplied, and makes the completion test where a mark was
cleared (R119; R49 step 3, R84 step 5). -/
def State.clearMarks (d : DevNum) (s : State) : State :=
  match s.device d with
  | some dv =>
    if dv.markCount = 0 then s
    else
      ((s.setDevice d { dv with entries := dv.entries.map (fun e => { e with mark := false }) }).addUnapplied
        dv.markCount).completionTest
  | none => s

/-! ### Loads -/

/-- An entry as a load or DEACTIVATE leaves it (R35, R48). Its slots and its mark are kept. -/
def Entry.unload (e : Entry) : Entry :=
  { e with state := .pending, applied := none, attempts := 0 }

/-- The probe timer reloaded with the probe interval, and no probe due (R77). -/
def Device.reloadTimer (dv : Device) : Device :=
  { dv with probeDue := false, probeRemaining := dv.params.probeInterval, probeElapsed := 0 }

/-- The probe fields as a load begins (R77). -/
def Device.timerForLoad (dv : Device) : Device :=
  match dv.state with
  | .dormant | .fenced => dv.reloadTimer
  | .running | .diverged | .suspect => if dv.probeDue then dv.reloadTimer else dv
  | .loading => { dv with probeDue := false }

/-- A load begins (R35): phase ENTRIES, or MARKER at once on a device with no entries (R36). -/
def Device.beginLoad (dv : Device) : Device :=
  { dv.timerForLoad with
    state := .loading
    phase := if dv.entries.isEmpty then .marker else .entries
    entries := dv.entries.map Entry.unload }

def State.beginLoad (d : DevNum) (s : State) : State := s.modDevice d Device.beginLoad

/-- Marks the transaction in progress for discard, if it is of the device and of one of the kinds (R60). -/
def State.discardTxn (d : DevNum) (kinds : List TxnKind) (s : State) : State :=
  match s.txn with
  | some t => if t.device = d ∧ t.kind ∈ kinds then { s with txn := some { t with discard := true } } else s
  | none => s

/-! ### The judgement of a push -/

/-- A push judged successful (R28, R29); becoming APPLIED clears the transition mark (R119). -/
def Entry.judgeSuccess (p : Profile) (sent : Value) (e : Entry) : Entry :=
  if e.desired p = sent then { e with state := .applied, applied := some sent, mark := false }
  else { e with state := .pending, applied := some sent, attempts := 0 }

/-- A failed attempt (R30); becoming FAILED clears the transition mark (R119). -/
def Entry.judgeFailure (retryLimit : Nat) (e : Entry) : Entry :=
  if e.attempts + 1 < retryLimit + 1 then { e with state := .pending, applied := none, attempts := e.attempts + 1 }
  else { e with state := .failed, applied := none, attempts := e.attempts + 1, mark := false }

/-- A readback matches when every bit set in the mask is the same in the data read as in the sent value (R13). -/
def readbackMatches (mask sent read : Value) : Bool := decide (read &&& mask = sent &&& mask)

/-- What follows an entry's judgement, in the order of R45 and R122: its entry waits, the notice of a failure, the device's
state and load phase, its device-settle waits, and the transition whose mark is cleared. -/
def State.afterJudgement (d : DevNum) (old new : Entry) (s : State) : State :=
  let s1 := s.modDevice d (Device.updateEntry old.register (fun _ => new))
  let s2 := s1.answer (entryWaitAnswer d new)
  let s3 := if new.isFailed then s2.post (.entryFailed d new.register) else s2
  let s4 := State.answerSettled s d (s3.reexamine d)
  if old.mark && !new.mark then (s4.addUnapplied (if new.isFailed then 1 else 0)).completionTest else s4

/-- Judges the IN_FLIGHT entry of a push, given the device, the entry and its sent value (R28 to R30). -/
def State.judgePush (d : DevNum) (r : Register) (judge : Device → Entry → Value → Entry) (s : State) : State :=
  match s.device d with
  | some dv =>
    match findEntry r dv.entries with
    | some e =>
      match e.state with
      | .inFlight _ sent => s.afterJudgement d e (judge dv e sent)
      | _ => s
    | none => s
  | none => s

end Sys2Proof.Machine
end

