-- ==== Sys2Proof/Machine/Profiles.lean ====
section
/-! DEFINITION. The profile controller and the claim unit's shared operations: switches (R115 to R117), the end of a claim
with its deferred switch (R100 to R103, R120), and the debounce of PSEL1:0 (R111). -/

namespace Sys2Proof.Machine

/-! ### Switches -/

/-- Re-examines every device, in ascending order. -/
def State.reexamineAll (s : State) : State :=
  (((((s.reexamine 0).reexamine 1).reexamine 2).reexamine 3).reexamine 4).reexamine 5

/-- A device's record after a switch to P (R117). -/
def State.switchedDevice (s : State) (P : Profile) (d : DevNum) : Option Device :=
  (s.device d).map (fun dv => if s.claimed d then dv else dv.change id P)

/-- What a device adds to the new transition's unapplied count (R117). -/
def State.switchUnapplied (s : State) (P : Profile) (d : DevNum) : Nat :=
  match s.device d with
  | some dv => if s.claimed d then 0 else dv.unappliedBy id P
  | none => 0

/-- Is a device deferred in a switch to P: claimed, with another profile in effect (R117)? -/
def State.switchDefers (s : State) (P : Profile) (d : DevNum) : Bool :=
  match s.device d with
  | some dv => s.claimed d && decide (dv.profile ≠ P)
  | none => false

/-- The answer that a superseded transition gives its waiters (R116 step 2). -/
def supersededAnswer (o : Outstanding) : Option (OutcomeCode × Payload) :=
  match o.wait with
  | .transition => some (.superseded, .none)
  | _ => none

/-- Steps 1 to 4 of R116: a switch to a profile that differs from the target. The new record has no waiter yet. -/
def State.switchTo (P : Profile) (s : State) : State :=
  let s1 := if s.profiles.transition.isSome then s.answer supersededAnswer else s
  State.reexamineAll
    { s1 with
      devices := PerDevice.ofFn (s.switchedDevice P)
      profiles :=
        { s.profiles with
          target := P
          transition := some
            { target := P
              unapplied := sumDevices (s.switchUnapplied P)
              deferred := PerDevice.ofFn (s.switchDefers P) } } }

/-- A switch of origin LINES (R115, R116). -/
def State.lineSwitch (P : Profile) (s : State) : State :=
  if P = s.profiles.target then s else (s.switchTo P).completionTest

/-! ### The end of a claim -/

/-- Is a device deferred in the transition in flight? -/
def State.deferred (s : State) (d : DevNum) : Bool :=
  match s.profiles.transition with
  | some t => t.deferred.get d
  | none => false

/-- Removes a device from the deferred set (R120 step 1). -/
def State.undefer (d : DevNum) (s : State) : State :=
  match s.profiles.transition with
  | some t =>
    { s with profiles := { s.profiles with transition := some { t with deferred := t.deferred.set d false } } }
  | none => s

/-- The profile in effect that a device has once its claim has ended (R120). -/
def State.profileAfterClaim (s : State) (d : DevNum) (dv : Device) : Profile :=
  if s.deferred d then s.profiles.target else dv.profile

/-- The end of a claim (R100, R102, R103, R105): the staged slots of every entry are committed or emptied, as f says, the
record is removed, and a deferred switch is applied (R120). The commit and the deferred switch are one happening (R10). -/
def State.endClaim (d : DevNum) (f : Entry → Entry) (s : State) : State :=
  match s.device d with
  | some dv =>
    let s1 := ((s.setClaim d none).setDevice d (dv.change f (s.profileAfterClaim d dv))).reexamine d
    if s.deferred d then
      ((s1.undefer d).addUnapplied (dv.unappliedBy f (s.profileAfterClaim d dv))).completionTest
    else s1
  | none => s.setClaim d none

/-- The commit count: the entries whose desired value the staged values move under the profile in effect before the claim
ended (R100 step 2). -/
def Device.commitCount (dv : Device) : Nat :=
  dv.entries.countP (fun e => decide (e.commitStaged.desired dv.profile ≠ e.desired dv.profile))

/-! ### The debounce (R111) -/

/-- The level of PSEL1:0 changes while the hub is READY (R111, first case). -/
def ProfileController.levelChanged (level : Profile) (c : ProfileController) : ProfileController :=
  if level = c.lineLevel then { c with candidate := none, candidateTime := 0 }
  else { c with candidate := some level, candidateTime := 0 }

/-- The level of PSEL1:0 is read as the hub becomes READY (R111): a candidate whose level is still present resumes from its
frozen time; otherwise the level is treated as a change. -/
def ProfileController.newLevel (level : Profile) (c : ProfileController) : ProfileController :=
  if c.candidate = some level ∧ level ≠ c.lineLevel then c else c.levelChanged level

/-- A line change: the line level becomes the candidate (R111), and under LINES it is a switch (R112). That the candidate time
becomes 0 as the candidate becomes none is the model's choice (log entry 26): R111 does not say. -/
def State.lineChange (s : State) : State :=
  match s.profiles.candidate with
  | some level =>
    let s1 := { s with profiles := { s.profiles with lineLevel := level, candidate := none, candidateTime := 0 } }
    if s.profiles.source = .lines then s1.lineSwitch level else s1
  | none => s

end Sys2Proof.Machine
end

