-- ==== Sys2Proof/Machine/Loss.lean ====
section
/-! DEFINITION. Loss, fencing and the breaking of a claim (R82 to R85, R105), expiry of a claim (R103) and of a probe timer
(R76), and what the link controller does at the end and at the cut of a transaction (R59, R60, R65). -/

namespace Sys2Proof.Machine

/-! ### Claims that end without a request -/

/-- The lease of the claim on a device has reached 0 (R103). -/
def State.expireClaim (d : DevNum) (s : State) : State :=
  match s.claim d with
  | some c => ((s.setLate d c.holder .expired).postTo c.holder (.claimExpired d)).endClaim d Entry.clearStaged
  | none => s

/-- A loss breaks the device's claim, if it is claimed (R83, R105). -/
def State.breakClaim (d : DevNum) (s : State) : State :=
  match s.claim d with
  | some c => ((s.setLate d c.holder .broken).postTo c.holder (.claimBroken d)).endClaim d Entry.clearStaged
  | none => s

/-! ### Loss -/

/-- The device becomes FENCED (R84). The load phase and the entries are kept. -/
def State.fence (d : DevNum) (s : State) : State :=
  let s1 := s.modDevice d (fun dv => { dv.reloadTimer with state := .fenced })
  let s2 := s1.post (.deviceFenced d)
  ((s2.answer (entryWaitsOf d .fenced)).answer (settleWaitsOf d .fenced)).clearMarks d

/-- A loss is declared on a device, and carried out whole (R82 to R85). -/
def State.declareLoss (d : DevNum) (s : State) : State :=
  let s1 := (s.modDevice d (fun dv => { dv with losses := dv.losses + 1 })).post (.deviceLost d)
  let s2 := s1.breakClaim d
  match s2.device d with
  | some dv => if dv.losses = dv.params.fenceLimit then s2.fence d else s2.beginLoad d
  | none => s2

/-! ### Probe timers -/

/-- A probe timer has run out: the probe becomes due, or is dropped on a LOADING device (R76). -/
def Device.timerOut (dv : Device) : Device :=
  if dv.state = .loading then dv.reloadTimer
  else { dv with probeRemaining := 0, probeElapsed := 0, probeDue := true }

/-! ### Ends of transactions -/

/-- The transaction ends: the record is removed, the link is free, and the walker cursor advances for PUSH and MARKER
(R39, R59). -/
def State.endTxn (t : Txn) (s : State) : State :=
  { s with
    txn := none
    link := none
    cursor := if t.kind = .push ∨ t.kind = .marker then nextDev t.device else s.cursor }

/-- A frame of the transaction ends and another follows after the idle gap (R57). -/
def State.endFrame (s : State) : State := { s with link := none }

/-- A matching confirm read ends the load (R37, R80). -/
def State.confirmLoad (d : DevNum) (s : State) : State :=
  match s.device d with
  | some dv =>
    let dv1 : Device :=
      { dv with
        state := if dv.anyFailed then .diverged else .running
        phase := .confirmed
        losses := if dv.params.probeInterval = 0 then 0 else dv.losses }
    State.answerSettled s d ((s.setDevice d dv1).post (.loadDone d dv.failedCount))
  | none => s

/-- A matching probe (R79, R89). -/
def State.probeMatched (d : DevNum) (s : State) : State :=
  match s.device d with
  | some dv =>
    match dv.state with
    | .running | .diverged => s.setDevice d { dv with losses := 0 }
    | .suspect =>
      State.answerSettled s d
        (s.setDevice d { dv with losses := 0, state := if dv.anyFailed then .diverged else .running })
    | .dormant | .loading | .fenced => s
  | none => s

/-- A probe is judged in RUNNING, DIVERGED and SUSPECT (R79, R89). -/
def State.judgeProbe (d : DevNum) (result : Option Value) (s : State) : State :=
  match s.device d with
  | some dv =>
    if dv.state = .running ∨ dv.state = .diverged ∨ dv.state = .suspect then
      if result = some dv.params.marker then s.probeMatched d else s.declareLoss d
    else s
  | none => s

/-- A confirm read is judged (R80). -/
def State.judgeConfirm (d : DevNum) (result : Option Value) (s : State) : State :=
  match s.device d with
  | some dv => if result = some dv.params.marker then s.confirmLoad d else s.declareLoss d
  | none => s

/-- The answer to the manual transfer at the head of a port's queue, which leaves the queue (R70, R71). -/
def State.finishTransfer (p : Port) (c : OutcomeCode) (pl : Payload) (s : State) : State :=
  match (s.port p).manual with
  | x :: rest =>
    (s.modPort p (fun q => { q with manual := rest })).answerPort p
      (fun o => if o.wait = .manual ∧ o.tag = x.tag then some (c, pl) else none)
  | [] => s

/-- The transaction in progress is cut as the hub enters LOW_SUPPLY (R65). -/
def State.cutTxn (s : State) : State :=
  match s.txn with
  | some t =>
    let s1 :=
      if t.discard then s
      else match t.kind with
        | .push =>
          s.modDevice t.device (Device.updateEntry t.register (fun e =>
            if e.isInFlight then { e with state := .pending, applied := none } else e))
        | .probe =>
          s.modDevice t.device (fun dv => { dv with probeDue := true, probeRemaining := 0, probeElapsed := 0 })
        | .marker | .manualRead | .manualWrite => s
    s1.endTxn t
  | none => s

end Sys2Proof.Machine
end

