-- ==== Sys2Proof/Machine/Delivery.lean ====
section
/-! DEFINITION. Frames between the ports and the request engine: the delivery of a complete frame (R126, R153, R167), the
take of a frame and its judgement (R127 to R129). -/

namespace Sys2Proof.Machine

/-- Does a port's request queue hold fewer than 4 frames? -/
def State.queueHasRoom (s : State) (p : Port) : Bool :=
  decide ((s.port p).requests.length < Config.requestQueue)

/-- A frame joins the tail of its port's request queue (R126). -/
def State.enqueue (p : Port) (f : Frame) (s : State) : State :=
  s.modPort p (fun q => { q with requests := q.requests ++ [f] })

/-- Port H's complete frame joins the request queue, or waits COMPLETE in the assembly buffer (R153). -/
def State.deliverH (f : Frame) (s : State) : State :=
  if s.queueHasRoom .h then (s.setPortH { s.portH with buffer := .empty }).enqueue .h f
  else s.setPortH { s.portH with buffer := .complete f }

/-- Port L's complete frame joins the request queue, or waits COMPLETE in the assembly buffer (R167). -/
def State.deliverL (f : Frame) (s : State) : State :=
  if s.queueHasRoom .l then (s.setPortL { s.portL with buffer := .empty }).enqueue .l f
  else s.setPortL { s.portL with buffer := .complete f }

/-- Port L as the take that makes room leaves it: its buffer leaves COMPLETE, and a held frame is given room (R167). R167's
table has rows for IDLE, HELD and HELD_BROKEN. That a take in UNSYNCED, which a hold with a COMPLETE frame leads to (R173),
empties the buffer as IDLE does and leaves the framing UNSYNCED is the model's choice (log entry 25); the other framing
states do not stand beside a COMPLETE buffer. -/
def PortL.afterDelivery (q : PortL) : PortL :=
  match q.framing with
  | .held => { q with buffer := .assembling [] false, framing := .opened }
  | .heldBroken => { q with buffer := .assembling [] true, framing := .discard }
  | .idle | .unsynced | .inactive | .opened | .discard | .ending => { q with buffer := .empty }

/-- A COMPLETE frame of the port taken from joins its queue in the happening of the take (R126, R153, R167). -/
def State.deliverWaiting (p : Port) (s : State) : State :=
  match p with
  | .h =>
    match s.portH.buffer with
    | .complete f => (s.setPortH { s.portH with buffer := .empty }).enqueue .h f
    | _ => s
  | .l =>
    match s.portL.buffer with
    | .complete f => (s.setPortL s.portL.afterDelivery).enqueue .l f
    | _ => s

/-- A take removes the head frame of a port's queue, turns the port rotation and delivers the port's COMPLETE frame
(R126, R127). The port rotation becomes the other port: the one other than the port TAKEN FROM. That R127 does not mean a
toggle of the rotation's own value, which differs where the port named is passed over, is the model's choice
(log entry 23). -/
def State.dequeue (p : Port) (s : State) : State :=
  State.deliverWaiting p
    { s.modPort p (fun q => { q with requests := q.requests.tail }) with portRotation := otherPort p }

/-- Has the port an outstanding deferred request with this tag (R128 step 3)? -/
def State.tagOutstanding (s : State) (p : Port) (tag : Byte) : Bool :=
  (s.port p).outstanding.any (fun o => decide (o.tag = tag))

/-- Steps 2 to 5 of R128 on a frame that names the kind k: the validation of R190, the duplicate tag, the kinds of Port H
alone, and then the request's own rule. -/
def State.judgeFrame (p : Port) (k : ReqKind) (f : Frame) (act : Byte → Request → State → State) (s : State) : State :=
  match f.request with
  | none => s.respond p f.tag .badRequest .none
  | some r =>
    if s.tagOutstanding p f.tag then s.respond p f.tag .badRequest .none
    else if k.hOnly && decide (p = .l) then s.respond p f.tag .notPermitted .none
    else act f.tag r s

/-- The request engine takes the head frame of port p, which names the kind k (R127, R128). Where the engine's next take is
not of port p, or the head frame does not name k, no such take can come about and the command is turned away: nothing
changes (log entry 4). -/
def State.takeRequest (p : Port) (k : ReqKind) (act : Byte → Request → State → State) (s : State) : State :=
  if s.nextTake = some p then
    match (s.port p).requests with
    | f :: _ => if f.names k then (s.dequeue p).judgeFrame p k f act else s
    | [] => s
  else s

/-- The request engine takes a head frame that names no request kind: broken or without a readable tag it is answered
BAD_FRAME, of an unknown kind BAD_REQUEST (R128 steps 1 and 2, R129). -/
def State.takeBadFrame (p : Port) (s : State) : State :=
  if s.nextTake = some p then
    match (s.port p).requests with
    | f :: _ =>
      if f.namesSome then s
      else if f.broken || !f.tagReadable then (s.dequeue p).respond p f.tag .badFrame .none
      else (s.dequeue p).respond p f.tag .badRequest .none
    | [] => s
  else s

end Sys2Proof.Machine
end

