-- ==== Sys2Proof/Machine/ClaimRequests.lean ====
section
/-! DEFINITION. CLAIM, COMMIT and ABANDON (chapter 5), SELECT_PROFILE and SET_PROFILE_SOURCE (6.3). -/

namespace Sys2Proof.Machine

/-! ### CLAIM (R95, R96) -/

def reqClaim (p : Port) (tag device lease : Byte) (s : State) : State :=
  match s.findDevice device with
  | none => s.respond p tag .notFound .none
  | some (d, _) =>
    if lease = 0 then s.respond p tag .badRequest .none
    else match s.claim d with
      | some c =>
        if c.holder ≠ p then s.respond p tag .held .none
        else (s.setClaim d (some { c with lease := lease.toNat, elapsed := 0 })).respond p tag .ok .none
      | none =>
        ((s.setClaim d (some { holder := p, lease := lease.toNat, elapsed := 0 })).setLate d p .none).respond p tag .ok .none

/-- CLAIM (R95, R96). -/
def execClaim (p : Port) (s : State) : Result :=
  .next (s.takeRequest p .claim (fun tag r s => match r with
    | .claim d n => reqClaim p tag d n s
    | _ => s))

/-! ### COMMIT and ABANDON (R99 to R102) -/

/-- Checks 3 to 5 of R99, for a port that does not hold the claim. -/
def State.notHolder (p : Port) (tag : Byte) (d : DevNum) (s : State) : State :=
  match s.lateMark d p with
  | .expired => (s.setLate d p .none).respond p tag .expired .none
  | .broken => (s.setLate d p .none).respond p tag .broken .none
  | .none => if s.claimed d then s.respond p tag .held .none else s.respond p tag .wrongState .none

/-- Does the port hold the claim on the device? -/
def State.holds (s : State) (p : Port) (d : DevNum) : Bool :=
  match s.claim d with
  | some c => decide (c.holder = p)
  | none => false

/-- How a COMMIT is answered, from the device as the commit leaves it (R101): at once, or, where the answer is none, by a
device-settle wait. -/
def commitAnswer (wait : Bool) (count : Nat) (after : Device) : Option (OutcomeCode × Payload) :=
  if !wait then some (.ok, .count count)
  else if after.state = .dormant then some (.notActive, .none)
  else if after.state = .fenced then some (.fenced, .none)
  else if after.settled then
    if after.state = .diverged then some (.failed, .count after.failedCount) else some (.ok, .count count)
  else none

def reqCommit (p : Port) (tag device : Byte) (wait : Bool) (s : State) : State :=
  match s.findDevice device with
  | none => s.respond p tag .notFound .none
  | some (d, dv) =>
    if s.holds p d then
      let s1 := s.endClaim d Entry.commitStaged
      match commitAnswer wait dv.commitCount ((s1.device d).getD dv) with
      | some a => s1.respond p tag a.1 a.2
      | none =>
        if s.capFull p then s.respond p tag .busy .none
        else s1.await p ⟨tag, .commit, .settle d (some dv.commitCount)⟩
    else s.notHolder p tag d

/-- COMMIT (R99 to R101). -/
def execCommit (p : Port) (s : State) : Result :=
  .next (s.takeRequest p .commit (fun tag r s => match r with
    | .commit d w => reqCommit p tag d w s
    | _ => s))

def reqAbandon (p : Port) (tag device : Byte) (s : State) : State :=
  match s.findDevice device with
  | none => s.respond p tag .notFound .none
  | some (d, _) =>
    if s.holds p d then (s.endClaim d Entry.clearStaged).respond p tag .ok .none
    else s.notHolder p tag d

/-- ABANDON (R99, R102). -/
def execAbandon (p : Port) (s : State) : Result :=
  .next (s.takeRequest p .abandon (fun tag r s => match r with
    | .abandon d => reqAbandon p tag d s
    | _ => s))

/-! ### SELECT_PROFILE (R113, R115, R116, R122) -/

/-- The profile that an operand byte names (R113 check 2). -/
def profileOf (b : Byte) : Option Profile := if h : b.toNat < 4 then some ⟨b.toNat, h⟩ else none

/-- Is the port one of the waiters of the transition (R113 check 4)? -/
def State.isWaiter (s : State) (p : Port) : Bool :=
  (s.port p).outstanding.any (fun o => decide (o.wait = .transition))

/-- A SELECT_PROFILE of the target itself (R115, R113 checks 3 and 4). -/
def State.selectSame (p : Port) (tag : Byte) (wait : Bool) (s : State) : State :=
  if wait && s.profiles.transition.isSome then
    if s.capFull p then s.respond p tag .busy .none
    else if s.isWaiter p then s.respond p tag .busy .none
    else s.await p ⟨tag, .selectProfile, .transition⟩
  else s.respond p tag .ok .none

/-- Would a transition still be in flight after the completion test? -/
def State.staysInFlight (s : State) : Bool := s.completionTest.profiles.transition.isSome

/-- A SELECT_PROFILE of another profile (R116, R113 check 3, R122). -/
def State.selectOther (p : Port) (tag : Byte) (P : Profile) (wait : Bool) (s : State) : State :=
  let s1 := s.switchTo P
  if wait then
    if s1.staysInFlight && s.capFull p then s.respond p tag .busy .none
    else (s1.await p ⟨tag, .selectProfile, .transition⟩).completionTest
  else s1.completionTest.respond p tag .ok .none

def reqSelectProfile (p : Port) (tag profile : Byte) (wait : Bool) (s : State) : State :=
  if s.profiles.source = .lines then s.respond p tag .notPermitted .none
  else match profileOf profile with
    | none => s.respond p tag .badRequest .none
    | some P => if P = s.profiles.target then s.selectSame p tag wait else s.selectOther p tag P wait

/-- SELECT_PROFILE (R113, R115, R116, R122). -/
def execSelectProfile (p : Port) (s : State) : Result :=
  .next (s.takeRequest p .selectProfile (fun tag r s => match r with
    | .selectProfile x w => reqSelectProfile p tag x w s
    | _ => s))

/-! ### SET_PROFILE_SOURCE (R114) -/

/-- The source that an operand byte names (R189). -/
def sourceOf (b : Byte) : Option ProfileSource :=
  if b = 0 then some .requests else if b = 1 then some .lines else none

/-- Sets the profile source; a change to LINES takes the line level as a switch (R114). -/
def State.setSource (x : ProfileSource) (s : State) : State :=
  let s1 := { s with profiles := { s.profiles with source := x } }
  if s.profiles.source = .requests ∧ x = .lines then s1.lineSwitch s.profiles.lineLevel else s1

def reqSetProfileSource (p : Port) (tag source : Byte) (s : State) : State :=
  match sourceOf source with
  | none => s.respond p tag .badRequest .none
  | some x => (s.setSource x).respond p tag .ok .none

/-- SET_PROFILE_SOURCE (R114). -/
def execSetProfileSource (p : Port) (s : State) : Result :=
  .next (s.takeRequest p .setProfileSource (fun tag r s => match r with
    | .setProfileSource x => reqSetProfileSource p tag x s
    | _ => s))

end Sys2Proof.Machine
end

