-- ==== Sys2Proof/Machine/DeviceRequests.lean ====
section
/-! DEFINITION. WRITE (2.6), the device requests ACTIVATE, DEACTIVATE, RESYNC (2.7) and RESET_DEVICE (4.7), and the manual
transfers READ_DEVICE and RAW_WRITE (3.6). -/

namespace Sys2Proof.Machine

/-! ### WRITE (R41 to R43) -/

/-- May a port write an entry of this owner (R12)? -/
def Owner.admits (o : Owner) (p : Port) : Bool :=
  match o, p with
  | .any, _ => true
  | .h, .h => true
  | .l, .l => true
  | .h, .l => false
  | .l, .h => false

/-- The slot that an operand byte names (R41 check 2). -/
def slotOf (b : Byte) : Option (Fin 4) := if h : b.toNat < 4 then some ⟨b.toNat, h⟩ else none

/-- A committed WRITE on the image and the coherence engine (R43, R26). -/
def State.commitWrite (d : DevNum) (r : Register) (slot : Fin 4) (c : SlotContent) (s : State) : State :=
  (s.modDevice d (fun dv =>
    dv.updateEntry r (Entry.change (Entry.commitSlot slot c) dv.profile dv.profile dv.state))).reexamine d

/-- How a committed WRITE is answered (R43): at once, with an outcome and a payload, or by an entry wait with its expected
value. `e` is the entry before the commit, `e'` after it, `st` and `p` the device's state and profile in effect. -/
def writeAnswer (wait : Bool) (st : DevState) (p : Profile) (e e' : Entry) : Sum (OutcomeCode × Payload) Value :=
  if !wait then .inl (.ok, .none)
  else if st = .dormant then .inl (.notActive, .none)
  else if st = .fenced then .inl (.fenced, .none)
  else if e'.isApplied ∧ e'.desired p = e.desired p then .inl (.ok, .value (e'.applied.getD 0))
  else if e'.isFailed ∧ e'.desired p = e.desired p then .inl (.failed, .none)
  else .inr (e'.desired p)

def reqWrite (p : Port) (tag device register slot : Byte) (wait clear : Bool) (value : Value) (s : State) : State :=
  match s.findDevice device with
  | none => s.respond p tag .notFound .none
  | some (d, dv) =>
    match findEntry register dv.entries with
    | none => s.respond p tag .notFound .none
    | some e =>
      match slotOf slot with
      | none => s.respond p tag .badRequest .none
      | some sl =>
        if clear && decide (sl = 0) then s.respond p tag .badRequest .none
        else if !e.owner.admits p then s.respond p tag .denied .none
        else
          let c := if clear then SlotContent.clear else SlotContent.value value
          match s.claim d with
          | some cl =>
            if cl.holder ≠ p then s.respond p tag .held .none
            else (s.setDevice d (dv.updateEntry register (Entry.stageSlot sl c))).respond p tag .staged .none
          | none =>
            match writeAnswer wait dv.state dv.profile e
                (e.change (Entry.commitSlot sl c) dv.profile dv.profile dv.state) with
            | .inl a => (s.commitWrite d register sl c).respond p tag a.1 a.2
            | .inr expected =>
              if s.capFull p then s.respond p tag .busy .none
              else (s.commitWrite d register sl c).await p ⟨tag, .write, .entry d register expected⟩

/-- WRITE (R41 to R43). -/
def execWrite (p : Port) (s : State) : Result :=
  .next (s.takeRequest p .write (fun tag r s => match r with
    | .write d reg sl w c v => reqWrite p tag d reg sl w c v s
    | _ => s))

/-! ### Device-settle waits (R46) -/

/-- Answers OK at once without the wait flag; with it opens a device-settle wait. The device is LOADING, so the wait is
never answered at once (R47, R50, R87). -/
def State.okOrSettleWait (p : Port) (tag : Byte) (k : ReqKind) (d : DevNum) (wait : Bool) (s : State) : State :=
  if wait then s.await p ⟨tag, k, .settle d none⟩ else s.respond p tag .ok .none

/-! ### ACTIVATE (R47) -/

def reqActivate (p : Port) (tag device : Byte) (wait : Bool) (s : State) : State :=
  match s.findDevice device with
  | none => s.respond p tag .notFound .none
  | some (d, dv) =>
    if dv.state ≠ .dormant then s.respond p tag .wrongState .none
    else if wait && s.capFull p then s.respond p tag .busy .none
    else (s.beginLoad d).okOrSettleWait p tag .activate d wait

/-- ACTIVATE (R47). -/
def execActivate (p : Port) (s : State) : Result :=
  .next (s.takeRequest p .activate (fun tag r s => match r with
    | .activate d w => reqActivate p tag d w s
    | _ => s))

/-! ### DEACTIVATE (R48, R49) -/

/-- The record as DEACTIVATE leaves it (R48, R77). -/
def Device.deactivated (dv : Device) : Device :=
  { dv.reloadTimer with
    state := .dormant, phase := .entries, losses := 0, entries := dv.entries.map Entry.unload }

/-- DEACTIVATE of a device, with its consequences in the order of R49. -/
def State.deactivate (d : DevNum) (s : State) : State :=
  let s1 := (s.modDevice d Device.deactivated).discardTxn d [.push, .marker, .probe]
  ((s1.answer (entryWaitsOf d .aborted)).answer (settleWaitsOf d .aborted)).clearMarks d

def reqDeactivate (p : Port) (tag device : Byte) (s : State) : State :=
  match s.findDevice device with
  | none => s.respond p tag .notFound .none
  | some (d, dv) =>
    if s.claimed d then s.respond p tag .held .none
    else if dv.state = .dormant then s.respond p tag .wrongState .none
    else (s.deactivate d).respond p tag .ok .none

/-- DEACTIVATE (R48, R49). -/
def execDeactivate (p : Port) (s : State) : Result :=
  .next (s.takeRequest p .deactivate (fun tag r s => match r with
    | .deactivate d => reqDeactivate p tag d s
    | _ => s))

/-! ### RESYNC (R50) -/

def reqResync (p : Port) (tag device : Byte) (wait : Bool) (s : State) : State :=
  match s.findDevice device with
  | none => s.respond p tag .notFound .none
  | some (d, dv) =>
    if s.claimed d then s.respond p tag .held .none
    else if dv.state = .fenced then s.respond p tag .fenced .none
    else if dv.state = .dormant ∨ dv.state = .loading then s.respond p tag .wrongState .none
    else if wait && s.capFull p then s.respond p tag .busy .none
    else ((s.beginLoad d).discardTxn d [.push, .probe]).okOrSettleWait p tag .resync d wait

/-- RESYNC (R50). -/
def execResync (p : Port) (s : State) : Result :=
  .next (s.takeRequest p .resync (fun tag r s => match r with
    | .resync d w => reqResync p tag d w s
    | _ => s))

/-! ### RESET_DEVICE (R87) -/

def reqResetDevice (p : Port) (tag device : Byte) (wait : Bool) (s : State) : State :=
  match s.findDevice device with
  | none => s.respond p tag .notFound .none
  | some (d, dv) =>
    if s.claimed d then s.respond p tag .held .none
    else if dv.state ≠ .fenced ∧ dv.state ≠ .diverged then s.respond p tag .wrongState .none
    else if wait && s.capFull p then s.respond p tag .busy .none
    else
      (((s.modDevice d (fun x => { x with losses := 0 })).beginLoad d).discardTxn d [.push, .probe]).okOrSettleWait
        p tag .resetDevice d wait

/-- RESET_DEVICE (R87). -/
def execResetDevice (p : Port) (s : State) : Result :=
  .next (s.takeRequest p .resetDevice (fun tag r s => match r with
    | .resetDevice d w => reqResetDevice p tag d w s
    | _ => s))

/-! ### READ_DEVICE and RAW_WRITE (R68, R69) -/

/-- A manual transfer joins the tail of its port's manual queue and is outstanding (R67). -/
def State.queueTransfer (p : Port) (k : ReqKind) (x : Transfer) (s : State) : State :=
  (s.modPort p (fun q => { q with manual := q.manual ++ [x] })).await p ⟨x.tag, k, .manual⟩

def reqReadDevice (p : Port) (tag device register : Byte) (s : State) : State :=
  match s.findDevice device with
  | none => s.respond p tag .notFound .none
  | some (d, _) =>
    if s.capFull p then s.respond p tag .busy .none
    else s.queueTransfer p .readDevice ⟨.readDevice, tag, d, register⟩

/-- READ_DEVICE (R68). -/
def execReadDevice (p : Port) (s : State) : Result :=
  .next (s.takeRequest p .readDevice (fun tag r s => match r with
    | .readDevice d reg => reqReadDevice p tag d reg s
    | _ => s))

def reqRawWrite (p : Port) (tag device register : Byte) (value : Value) (s : State) : State :=
  match s.findDevice device with
  | none => s.respond p tag .notFound .none
  | some (d, dv) =>
    if (findEntry register dv.entries).isSome ∨ register = dv.params.checkRegister then s.respond p tag .managed .none
    else if s.capFull p then s.respond p tag .busy .none
    else s.queueTransfer p .rawWrite ⟨.rawWrite value, tag, d, register⟩

/-- RAW_WRITE (R69). -/
def execRawWrite (p : Port) (s : State) : Result :=
  .next (s.takeRequest p .rawWrite (fun tag r s => match r with
    | .rawWrite d reg v => reqRawWrite p tag d reg v s
    | _ => s))

end Sys2Proof.Machine
end

