-- ==== Sys2Proof/Machine/ImageRequests.lean ====
section
/-! DEFINITION. The definition requests and READ_ENTRY (1.4, 1.5): DEFINE_DEVICE, REMOVE_DEVICE, ADD_ENTRY, REMOVE_ENTRY,
SET_ENTRY_ATTR, READ_ENTRY. -/

namespace Sys2Proof.Machine

/-! ### DEFINE_DEVICE (R15) -/

/-- The verify policy that an operand byte names (R189). -/
def verifyPolicyOf (b : Byte) : Option VerifyPolicy :=
  if b = 0 then some .none else if b = 1 then some .readback else none

/-- The parameters of a DEFINE_DEVICE whose operands are in range (R15 check 1). -/
def paramsOf (checkRegister : Byte) (marker : Value) (speedClass verifyPolicy retryLimit probeInterval fenceLimit : Byte) :
    Option Params :=
  match verifyPolicyOf verifyPolicy with
  | some v =>
    if speedClass.toNat ≤ 3 ∧ retryLimit.toNat ≤ 7 ∧ probeInterval.toNat ≤ 250 ∧ 1 ≤ fenceLimit.toNat ∧ fenceLimit.toNat ≤ 7 then
      some
        { checkRegister := checkRegister, marker := marker, speedClass := speedClass.toNat, verifyPolicy := v
          retryLimit := retryLimit.toNat, probeInterval := probeInterval.toNat, fenceLimit := fenceLimit.toNat }
    else none
  | none => none

/-- The record that DEFINE_DEVICE creates (R15). -/
def Device.defined (ps : Params) (target : Profile) : Device :=
  { params := ps, state := .dormant, phase := .entries, probeRemaining := ps.probeInterval, probeElapsed := 0
    probeDue := false, losses := 0, profile := target, entries := [] }

/-- Sets both late marks of a device to none (R93). -/
def State.clearLate (d : DevNum) (s : State) : State := { s with late := s.late.set d ⟨.none, .none⟩ }

def reqDefineDevice (p : Port) (tag device : Byte) (ps : Option Params) (s : State) : State :=
  match devNum? device.toNat, ps with
  | some d, some ps =>
    match s.device d with
    | some _ => s.respond p tag .duplicate .none
    | none => ((s.setDevice d (Device.defined ps s.profiles.target)).clearLate d).respond p tag .ok .none
  | _, _ => s.respond p tag .badRequest .none

/-- DEFINE_DEVICE (R15). -/
def execDefineDevice (p : Port) (s : State) : Result :=
  .next (s.takeRequest p .defineDevice (fun tag r s => match r with
    | .defineDevice d c m sp vp rl pi fl => reqDefineDevice p tag d (paramsOf c m sp vp rl pi fl) s
    | _ => s))

/-! ### REMOVE_DEVICE (R20) -/

/-- Is the transaction in progress a manual transfer for the device? -/
def State.manualOnLink (s : State) (d : DevNum) : Bool :=
  match s.txn with
  | some t => (decide (t.kind = .manualRead) || decide (t.kind = .manualWrite)) && decide (t.device = d)
  | none => false

/-- Is a manual transfer for the device in either port's manual queue, or the transaction in progress (R20 check 4)? -/
def State.transferFor (s : State) (d : DevNum) : Bool :=
  (s.port .h).manual.any (fun x => decide (x.device = d)) || (s.port .l).manual.any (fun x => decide (x.device = d)) ||
    s.manualOnLink d

/-- The record becomes ABSENT; its entry records return to the pool. -/
def State.removeDevice (d : DevNum) (s : State) : State := { s with devices := s.devices.set d none }

def reqRemoveDevice (p : Port) (tag device : Byte) (s : State) : State :=
  match s.findDevice device with
  | none => s.respond p tag .notFound .none
  | some (d, dv) =>
    if s.claimed d then s.respond p tag .held .none
    else if dv.state ≠ .dormant then s.respond p tag .wrongState .none
    else if s.transferFor d then s.respond p tag .busy .none
    else ((s.removeDevice d).clearLate d).respond p tag .ok .none

/-- REMOVE_DEVICE (R20). -/
def execRemoveDevice (p : Port) (s : State) : Result :=
  .next (s.takeRequest p .removeDevice (fun tag r s => match r with
    | .removeDevice d => reqRemoveDevice p tag d s
    | _ => s))

/-! ### ADD_ENTRY (R16) -/

/-- The owner that an operand byte names (R189). -/
def ownerOf (b : Byte) : Option Owner :=
  if b = 1 then some .h else if b = 2 then some .l else if b = 3 then some .any else none

/-- The record that ADD_ENTRY inserts (R16). -/
def Entry.added (r : Register) (o : Owner) (base verifyMask : Value) : Entry :=
  { register := r, owner := o, verifyMask := verifyMask, base := base, override1 := none, override2 := none
    override3 := none, state := .pending, applied := none, attempts := 0, stagedBase := none, staged1 := none
    staged2 := none, staged3 := none, mark := false }

def reqAddEntry (p : Port) (tag device register owner : Byte) (base verifyMask : Value) (s : State) : State :=
  match s.findDevice device with
  | none => s.respond p tag .notFound .none
  | some (d, dv) =>
    match ownerOf owner with
    | none => s.respond p tag .badRequest .none
    | some o =>
      if s.claimed d then s.respond p tag .held .none
      else if (findEntry register dv.entries).isSome ∨ register = dv.params.checkRegister then
        s.respond p tag .duplicate .none
      else if Config.entriesPerDevice ≤ dv.entries.length ∨ Config.poolSize ≤ s.poolInUse then
        s.respond p tag .noSpace .none
      else
        ((s.setDevice d { dv with entries := insertEntry (Entry.added register o base verifyMask) dv.entries }).reexamine
          d).respond p tag .ok .none

/-- ADD_ENTRY (R16). -/
def execAddEntry (p : Port) (s : State) : Result :=
  .next (s.takeRequest p .addEntry (fun tag r s => match r with
    | .addEntry d reg o b m => reqAddEntry p tag d reg o b m s
    | _ => s))

/-! ### REMOVE_ENTRY (R17, R18) -/

/-- The entry leaves the list, and the blocks that depended on it act in the order of R18. -/
def State.removeEntry (d : DevNum) (dv : Device) (e : Entry) (s : State) : State :=
  let s1 := (s.setDevice d { dv with entries := Machine.removeEntry e.register dv.entries }).answer
    (entryWaitsOn d e.register .aborted)
  let s2 := State.answerSettled s d (s1.reexamine d)
  if e.mark then (s2.addUnapplied 1).completionTest else s2

def reqRemoveEntry (p : Port) (tag device register : Byte) (s : State) : State :=
  match s.findDevice device with
  | none => s.respond p tag .notFound .none
  | some (d, dv) =>
    if s.claimed d then s.respond p tag .held .none
    else match findEntry register dv.entries with
      | none => s.respond p tag .notFound .none
      | some e =>
        if e.isInFlight then s.respond p tag .busy .none
        else (s.removeEntry d dv e).respond p tag .ok .none

/-- REMOVE_ENTRY (R17, R18). -/
def execRemoveEntry (p : Port) (s : State) : Result :=
  .next (s.takeRequest p .removeEntry (fun tag r s => match r with
    | .removeEntry d reg => reqRemoveEntry p tag d reg s
    | _ => s))

/-! ### SET_ENTRY_ATTR (R19) -/

def reqSetEntryAttr (p : Port) (tag device register owner : Byte) (verifyMask : Value) (s : State) : State :=
  match s.findDevice device with
  | none => s.respond p tag .notFound .none
  | some (d, dv) =>
    match ownerOf owner with
    | none => s.respond p tag .badRequest .none
    | some o =>
      match findEntry register dv.entries with
      | none => s.respond p tag .notFound .none
      | some _ =>
        (s.setDevice d
          (dv.updateEntry register (fun e => { e with owner := o, verifyMask := verifyMask }))).respond p tag .ok .none

/-- SET_ENTRY_ATTR (R19). -/
def execSetEntryAttr (p : Port) (s : State) : Result :=
  .next (s.takeRequest p .setEntryAttr (fun tag r s => match r with
    | .setEntryAttr d reg o m => reqSetEntryAttr p tag d reg o m s
    | _ => s))

/-! ### READ_ENTRY (R21, R22) -/

/-- The state of an entry without phase and sent value. -/
def EntryState.status : EntryState → EntryStatus
  | .pending => .pending
  | .inFlight _ _ => .inFlight
  | .applied => .applied
  | .failed => .failed

/-- The view of R22, resolved under the device's profile in effect. -/
def Entry.view (e : Entry) (p : Profile) : EntryView :=
  { register := e.register, owner := e.owner, state := e.state.status, attempts := e.attempts, verifyMask := e.verifyMask
    base := e.base, override1 := e.override1, override2 := e.override2, override3 := e.override3, desired := e.desired p
    applied := e.applied, stagedBase := e.stagedBase, staged1 := e.staged1, staged2 := e.staged2, staged3 := e.staged3 }

def reqReadEntry (p : Port) (tag device register : Byte) (onward : Bool) (s : State) : State :=
  match s.findDevice device with
  | none => s.respond p tag .notFound .none
  | some (_, dv) =>
    match (if onward then findOnward register dv.entries else findEntry register dv.entries) with
    | none => s.respond p tag .notFound .none
    | some e => s.respond p tag .ok (.entry (e.view dv.profile))

/-- READ_ENTRY (R21, R22). -/
def execReadEntry (p : Port) (s : State) : Result :=
  .next (s.takeRequest p .readEntry (fun tag r s => match r with
    | .readEntry d reg onward => reqReadEntry p tag d reg onward s
    | _ => s))

end Sys2Proof.Machine
end

