-- ==== Sys2Proof/Machine/LinkSteps.lean ====
section
/-! DEFINITION. The steps of the link controller (chapter 3): the arbiter's grants, the follow-on frames, the ends of frames,
and the HOLD line. A step whose transaction or frame is not the one on the link, or a grant that the arbiter does not make,
cannot come about in that state: the command is turned away and nothing changes (log entry 4). -/

namespace Sys2Proof.Machine

/-! ### Grants (R61 to R63) -/

/-- The first frame of a transaction is on the link (R57, R58). -/
def State.startTxn (t : Txn) (op : LinkOp) (data : Value) (s : State) : State :=
  { s with
    txn := some t
    link := some
      { device := t.device, op := op, register := t.register, data := data, speedClass := t.params.speedClass } }

/-- A transaction record as its grant makes it (R58). -/
def Txn.granted (k : TxnKind) (d : DevNum) (r : Register) (q : Requester) (ps : Params) : Txn :=
  { kind := k, device := d, register := r, requester := q, frame := 1, readsMade := 0, discard := false, params := ps }

/-- A probe is granted to a device: its probe stops being due and its timer is reloaded (R62, R77). -/
def State.grantProbe (d : DevNum) (s : State) : State :=
  match s.device d with
  | some dv =>
    (s.setDevice d dv.reloadTimer).startTxn (Txn.granted .probe d dv.params.checkRegister .lossUnit dv.params) .read 0
  | none => s

/-- PROBE_GRANT (R62). -/
def execProbeGrant (s : State) : Result :=
  .next (if s.linkFree then
    match s.nextProbe with
    | some d => s.grantProbe d
    | none => s
  else s)

/-- A rotation grant moves rotation next past the requester granted (R63). -/
def State.rotateFrom (r : Rotation) (s : State) : State := { s with rotation := r.next }

/-- An entry as the grant of its push leaves it (R27). -/
def Entry.launched (p : Profile) (e : Entry) : Entry := { e with state := .inFlight .write (e.desired p) }

/-- The PENDING entry with the lowest register, in a list in ascending order (R6, R39). -/
def Device.lowestPending (dv : Device) : Option Entry := dv.entries.find? Entry.isPending

/-- The walker starts the push of a device's lowest PENDING entry (R27, R39). -/
def State.grantPush (d : DevNum) (dv : Device) (s : State) : State :=
  match dv.lowestPending with
  | some e =>
    (s.setDevice d (dv.updateEntry e.register (Entry.launched dv.profile))).startTxn
      (Txn.granted .push d e.register .pushWalker dv.params) .write (e.desired dv.profile)
  | none => s

/-- PUSH_GRANT (R27, R39, R63). -/
def execPushGrant (s : State) : Result :=
  .next (if s.rotationGrant = some .pushWalker then
    match s.walkerChoice with
    | some d =>
      match s.device d with
      | some dv => if dv.inMarkerPhase then s else (s.rotateFrom .pushWalker).grantPush d dv
      | none => s
    | none => s
  else s)

/-- The walker starts a device's marker transaction (R37, R39, R57). -/
def State.grantMarker (d : DevNum) (dv : Device) (s : State) : State :=
  s.startTxn (Txn.granted .marker d dv.params.checkRegister .pushWalker dv.params) .write dv.params.marker

/-- MARKER_GRANT (R39, R63). -/
def execMarkerGrant (s : State) : Result :=
  .next (if s.rotationGrant = some .pushWalker then
    match s.walkerChoice with
    | some d =>
      match s.device d with
      | some dv => if dv.inMarkerPhase then (s.rotateFrom .pushWalker).grantMarker d dv else s
      | none => s
    | none => s
  else s)

/-- The port of a manual queue that the rotation grants. -/
def Rotation.port? : Rotation → Option Port
  | .pushWalker => none
  | .manualH => some .h
  | .manualL => some .l

/-- The manual queue granted now, with its port and its head transfer (R63). -/
def State.manualGrant (s : State) : Option (Rotation × Port × Transfer) :=
  match s.rotationGrant with
  | some r =>
    match r.port? with
    | some p =>
      match (s.port p).manual with
      | x :: _ => some (r, p, x)
      | [] => none
    | none => none
  | none => none

/-- MANUAL_READ (R70). -/
def execManualRead (s : State) : Result :=
  .next (match s.manualGrant with
    | some (r, p, x) =>
      match x.kind, s.device x.device with
      | .readDevice, some dv =>
        (s.rotateFrom r).startTxn (Txn.granted .manualRead x.device x.register (.manual p) dv.params) .read 0
      | _, _ => s
    | none => s)

/-- MANUAL_WRITE (R71). -/
def execManualWrite (s : State) : Result :=
  .next (match s.manualGrant with
    | some (r, p, x) =>
      match x.kind, s.device x.device with
      | .rawWrite v, some dv =>
        (s.rotateFrom r).startTxn (Txn.granted .manualWrite x.device x.register (.manual p) dv.params) .write v
      | _, _ => s
    | none => s)

/-! ### Frames of a transaction in progress (R57) -/

/-- The transaction in progress, where it is of a kind and a frame of it is on the link. -/
def State.frameOf (s : State) (k : TxnKind) : Option Txn :=
  match s.txn with
  | some t => if t.kind = k ∧ s.link.isSome then some t else none
  | none => none

/-- FOLLOW_ON_FRAME_START (R57): every follow-on frame is a read of the transaction's register. -/
def execFollowOnFrameStart (s : State) : Result :=
  .next (match s.txn with
    | some t =>
      if s.link.isNone ∧ s.ready then s.startTxn { t with frame := t.frame + 1 } .read 0 else s
    | none => s)

/-- The end of a write frame moves the entry to phase READBACK (R29). -/
def Entry.toReadback (e : Entry) : Entry :=
  match e.state with
  | .inFlight _ sent => { e with state := .inFlight .readback sent }
  | _ => e

/-- PUSH_WRITE_FRAME_END (R28, R29). -/
def execPushWriteFrameEnd (s : State) : Result :=
  .next (match s.frameOf .push with
    | some t =>
      if t.frame ≠ 1 then s
      else match t.params.verifyPolicy with
        | .none =>
          (if t.discard then s
            else s.judgePush t.device t.register (fun dv e sent => e.judgeSuccess dv.profile sent)).endTxn t
        | .readback =>
          (if t.discard then s
            else s.modDevice t.device (Device.updateEntry t.register Entry.toReadback)).endFrame
    | none => s)

/-- The entry that a readback's end judges (R29, R30). -/
def judgeReadback (result : Option Value) (dv : Device) (e : Entry) (sent : Value) : Entry :=
  match result with
  | some v =>
    if readbackMatches e.verifyMask sent v then e.judgeSuccess dv.profile sent else e.judgeFailure dv.params.retryLimit
  | none => e.judgeFailure dv.params.retryLimit

/-- READBACK_END (R29, R30). -/
def execReadbackEnd (bits : SampledBits) (s : State) : Result :=
  .next (match s.frameOf .push with
    | some t =>
      if t.frame = 1 then s
      else (if t.discard then s else s.judgePush t.device t.register (judgeReadback (readResult bits))).endTxn t
    | none => s)

/-- MARKER_WRITE_FRAME_END (R57): the confirm read follows. -/
def execMarkerWriteFrameEnd (s : State) : Result :=
  .next (match s.frameOf .marker with
    | some t => if t.frame = 1 then s.endFrame else s
    | none => s)

/-- CONFIRM_READ_END (R80): a parity error on the first confirm read leads to the re-read. -/
def execConfirmReadEnd (bits : SampledBits) (s : State) : Result :=
  .next (match s.frameOf .marker with
    | some t =>
      if t.frame = 1 then s
      else if t.frame = 2 ∧ readResult bits = none then s.endFrame
      else (if t.discard then s else s.judgeConfirm t.device (readResult bits)).endTxn t
    | none => s)

/-- PROBE_READ_END (R78): a parity error on the first read leads to the re-read. -/
def execProbeReadEnd (bits : SampledBits) (s : State) : Result :=
  .next (match s.frameOf .probe with
    | some t =>
      if t.frame = 1 ∧ readResult bits = none then s.endFrame
      else (if t.discard then s else s.judgeProbe t.device (readResult bits)).endTxn t
    | none => s)

/-- The port whose manual queue a transaction serves. -/
def Txn.port? (t : Txn) : Option Port :=
  match t.requester with
  | .manual p => some p
  | .pushWalker | .lossUnit => none

/-- MANUAL_READ_FRAME_END (R70). -/
def execManualReadFrameEnd (bits : SampledBits) (s : State) : Result :=
  .next (match s.frameOf .manualRead with
    | some t =>
      match t.port? with
      | some p =>
        match readResult bits with
        | some v => (s.finishTransfer p .ok (.value v)).endTxn t
        | none =>
          if t.readsMade + 1 < t.params.retryLimit + 1 then
            { s.endFrame with txn := some { t with readsMade := t.readsMade + 1 } }
          else (s.finishTransfer p .failed .none).endTxn t
      | none => s
    | none => s)

/-- MANUAL_WRITE_FRAME_END (R71). -/
def execManualWriteFrameEnd (s : State) : Result :=
  .next (match s.frameOf .manualWrite with
    | some t =>
      match t.port? with
      | some p => (s.finishTransfer p .ok .none).endTxn t
      | none => s
    | none => s)

/-! ### HOLD (R64) -/

/-- HOLD_CHANGE (R64): the arbiter reads the level at each point where it would make a grant. -/
def execHoldChange (asserted : Bool) (s : State) : Result :=
  .next { s with inputs := { s.inputs with hold := asserted } }

end Sys2Proof.Machine
end

