-- ==== Sys2Proof/Machine/PortHSteps.lean ====
section
/-! DEFINITION. Port H, the two-wire target (chapter 8): bus conditions, the address byte, data bytes in both directions. -/

namespace Sys2Proof.Machine

/-- A write transaction addressed to the hub ends at a STOP or START condition, part-way through a byte or not
(R151, R152). A transaction refused at its address has no buffer content of its own. -/
def State.endWriteH (midByte : Bool) (s : State) : State :=
  match s.portH.buffer with
  | .assembling [] _ => s.setPortH { s.portH with buffer := .empty }
  | .assembling bytes broken => s.deliverH { bytes := bytes, broken := broken || midByte }
  | .empty | .complete _ => s

/-- What a STOP or START condition ends: a write frame in progress, or a read transaction with its cursor (R151, R157). -/
def State.endBusTransaction (midByte : Bool) (s : State) : State :=
  match s.portH.phase with
  | .write | .skip => s.endWriteH midByte
  | .read => s.setPortH { s.portH with cursor := .none, stopped := false }
  | .inactive | .idle | .address => s

/-- A bus condition moves the port to a phase, unless it is INACTIVE (R148); the first one after the hub became READY ends
UNSYNCED (R159). -/
def State.busCondition (phase : BusPhase) (partialBits : Nat) (s : State) : State :=
  if s.portH.phase = .inactive ∨ 8 ≤ partialBits then s
  else
    let s1 := s.endBusTransaction (decide (partialBits ≠ 0))
    s1.setPortH { s1.portH with phase := phase, unsynced := false }

/-- START_CONDITION (R148, R151). -/
def execStartCondition (partialBits : Nat) (s : State) : Result := .next (s.busCondition .address partialBits)

/-- STOP_CONDITION (R148, R151). -/
def execStopCondition (partialBits : Nat) (s : State) : Result := .next (s.busCondition .idle partialBits)

/-- The seven address bits of an address byte (R148). -/
def addressBits (b : Byte) : BitVec 7 := b.extractLsb' 1 7

/-- The direction bit of an address byte: true for read (R148). -/
def directionRead (b : Byte) : Bool := b.getLsbD 0

/-- The port as the ninth clock of an address byte leaves it (R149, R155, R157). A write to the hub begins a new frame in a
buffer that is not COMPLETE: EMPTY, or ASSEMBLING with what a supply hold in phase SKIP left there (log entry 8). -/
def PortH.addressed (b : Byte) (noResponse : Bool) (q : PortH) : PortH :=
  if addressBits b ≠ q.address then { q with phase := .idle, ack := false }
  else if directionRead b then
    { q with phase := .read, cursor := if noResponse then .fill else .sending 0, stopped := false, ack := true }
  else if q.buffer.isComplete then { q with phase := .skip, ack := false }
  else { q with phase := .write, buffer := .assembling [] false, ack := true }

/-- ADDRESS_BYTE (R149, R155). -/
def execAddressByte (b : Byte) (s : State) : Result :=
  .next (if s.portH.phase = .address then s.setPortH (s.portH.addressed b (s.port .h).responses.isEmpty) else s)

/-- The port as the ninth clock of a data byte leaves it (R150, R152). -/
def PortH.received (b : Byte) (q : PortH) : PortH :=
  match q.phase, q.buffer with
  | .write, .assembling bytes broken =>
    if bytes.length < Config.frameBytes then { q with buffer := .assembling (bytes ++ [b]) broken, ack := true }
    else { q with buffer := .assembling bytes true, phase := .skip, ack := false }
  | .skip, _ => { q with ack := false }
  | _, _ => q

/-- WRITE_DATA_BYTE (R150, R152). -/
def execWriteDataByte (b : Byte) (s : State) : Result := .next (s.setPortH (s.portH.received b))

/-- The head response has been sent whole: it leaves the queue, and the cursor becomes FILL (R156), whether the last byte was
acknowledged or not. That the port then drives 0x00 after a last byte that was NOT acknowledged, too, is the model's choice:
R156 names the acknowledged case alone (log entry 24). -/
def State.removeSentH (s : State) : State :=
  (s.setPortH { s.portH with cursor := .fill }).modPort .h (fun q => { q with responses := q.responses.tail })

/-- RESPONSE_BYTE_ACK (R155, R156, R157). -/
def execResponseByteAck (ack : Bool) (s : State) : Result :=
  .next (if s.portH.phase = .read && !s.portH.stopped then
    match s.portH.cursor, (s.port .h).responses with
    | .sending n, r :: _ =>
      if n + 1 < r.bytes.length then s.setPortH { s.portH with cursor := .sending (n + 1), stopped := !ack }
      else s.removeSentH
    | _, _ => s
  else s)

end Sys2Proof.Machine
end

