-- ==== Sys2Proof/Machine/PortLSteps.lean ====
section
/-! DEFINITION. Port L, the strobed parallel mailbox (chapter 9): frames, strobes, the two latches. -/

namespace Sys2Proof.Machine

/-- An LFRM# assertion acted on in IDLE (R163). -/
def PortL.openFrame (q : PortL) : PortL :=
  match q.buffer with
  | .complete _ => { q with framing := .held }
  | .empty | .assembling _ _ => { q with framing := .opened, buffer := .assembling [] false }

/-- Records the level of LFRM#. -/
def State.setLfrm (asserted : Bool) (s : State) : State := { s with inputs := { s.inputs with lfrm := asserted } }

/-- Records the level of LACK#. -/
def State.setLack (asserted : Bool) (s : State) : State := { s with inputs := { s.inputs with lack := asserted } }

/-- LFRM_ASSERT (R163). In ENDING the assertion is held over: the level of LFRM# stands until the frame ends (R165). -/
def execLfrmAssert (s : State) : Result :=
  .next (if s.portL.framing = .idle then (s.setLfrm true).setPortL s.portL.openFrame else s.setLfrm true)

/-- A frame of Port L ends with the latch EMPTY (R166): with no byte kept it is ignored, otherwise it is delivered. -/
def State.endFrameL (s : State) : State :=
  match s.portL.buffer with
  | .assembling [] _ => s.setPortL { s.portL with framing := .idle, buffer := .empty }
  | .assembling bytes broken =>
    (s.setPortL { s.portL with framing := .idle }).deliverL { bytes := bytes, broken := broken }
  | .empty | .complete _ => s.setPortL { s.portL with framing := .idle }

/-- LFRM_DEASSERT (R166). -/
def execLfrmDeassert (s : State) : Result :=
  .next (match s.portL.framing with
    | .opened | .discard =>
      match s.portL.latch with
      | some _ => (s.setLfrm false).setPortL { s.portL with framing := .ending }
      | none => (s.setLfrm false).endFrameL
    | .held | .heldBroken | .unsynced => (s.setLfrm false).setPortL { s.portL with framing := .idle }
    | .inactive | .idle | .ending => s.setLfrm false)

/-- Sets the broken mark of a frame that is being assembled. -/
def Buffer.markBroken : Buffer → Buffer
  | .assembling bytes _ => .assembling bytes true
  | b => b

/-- A falling edge of LSTB# with a byte on LD7:0 (R164). -/
def PortL.strobed (b : Byte) (q : PortL) : PortL :=
  match q.framing, q.latch with
  | .opened, none => { q with latch := some b }
  | .opened, some _ => { q with buffer := q.buffer.markBroken, framing := .discard }
  | .ending, some _ => { q with buffer := q.buffer.markBroken }
  | .held, _ => { q with framing := .heldBroken }
  | _, _ => q

/-- The byte on LD7:0 at a strobe: the outbound latch's content while the hub drives the lines (R162). -/
def State.ldLevel (s : State) (data : Byte) : Byte := (s.ldDriven).getD data

/-- LSTB_FALL (R164). -/
def execLstbFall (data : Byte) (s : State) : Result := .next (s.setPortL (s.portL.strobed (s.ldLevel data)))

/-- The latched byte enters the assembly buffer, or is the 17th and breaks the frame (R165). -/
def PortL.takeByte (b : Byte) (q : PortL) : PortL :=
  match q.buffer with
  | .assembling bytes broken =>
    if bytes.length < Config.frameBytes then { q with latch := none, buffer := .assembling (bytes ++ [b]) broken }
    else
      { q with
        latch := none
        buffer := .assembling bytes true
        framing := if q.framing = .opened then .discard else q.framing }
  | .empty | .complete _ => { q with latch := none }

/-- A held-over assertion of LFRM# is acted on once the ending frame has ended (R163, R166, log entry 22). -/
def State.heldOver (s : State) : State :=
  if s.inputs.lfrm then s.setPortL s.portL.openFrame else s

/-- INBOUND_BYTE_TAKE (R165). -/
def execInboundByteTake (s : State) : Result :=
  .next (match s.ready, s.portL.latch with
    | true, some b =>
      let s1 := s.setPortL (s.portL.takeByte b)
      if s.portL.framing = .ending then s1.endFrameL.heldOver else s1
    | _, _ => s)

/-- OUTBOUND_LATCH_LOAD (R168). -/
def execOutboundLatchLoad (s : State) : Result :=
  .next (match s.ready && !s.portL.outFull, (s.port .l).responses with
    | true, r :: _ =>
      let k := s.portL.cursor.getD 0
      s.setPortL { s.portL with outLatch := r.byteAt k, outFull := true, cursor := some k }
    | _, _ => s)

/-- LACK_ASSERT (R169): the hub drives LD7:0 while LACK# is asserted (State.ldDriven). -/
def execLackAssert (s : State) : Result := .next (s.setLack true)

/-- The partner has consumed the latched byte; after the last one the response is removed (R169). -/
def State.consumed (s : State) : State :=
  let k := s.portL.cursor.getD 0 + 1
  match (s.port .l).responses with
  | r :: rest =>
    if k < r.bytes.length then s.setPortL { s.portL with outFull := false, cursor := some k }
    else
      (s.setPortL { s.portL with outFull := false, cursor := none }).modPort .l (fun q => { q with responses := rest })
  | [] => s.setPortL { s.portL with outFull := false, cursor := none }

/-- LACK_RISE (R169), whatever level is recorded (log entry 13). -/
def execLackRise (s : State) : Result :=
  .next (if s.ready && s.portL.outFull then (s.setLack false).consumed else s.setLack false)

end Sys2Proof.Machine
end

