-- ==== Sys2Proof/Machine/StartSteps.lean ====
section
/-! DEFINITION. Start control, the supply monitor and the boot image store (chapter 10), with what each block does at a cold
start and across a supply hold. -/

namespace Sys2Proof.Machine

/-! ### Cold start (R175) -/

/-- Entry to START: the outputs take their START levels, and all volatile state is discarded (R175). The banks, whose content
is kept with VDD at 0 V (R188), the input levels and the commands waiting are kept. -/
def State.coldStart (s : State) : State :=
  { s with
    hubState := .start
    origin := .noImage
    devices := PerDevice.const none
    cursor := 0
    claims := PerDevice.const none
    late := PerDevice.const ⟨.none, .none⟩
    profiles := ProfileController.cold
    txn := none
    link := none
    rotation := .pushWalker
    ports := ⟨PortSide.cold, PortSide.cold⟩
    portRotation := .h
    portH := PortH.cold
    portL := PortL.cold
    save := SaveUnit.cold }

def State.setSupply (x : Supply) (s : State) : State := { s with inputs := { s.inputs with supply := x } }

def State.setRst (asserted : Bool) (s : State) : State := { s with inputs := { s.inputs with rst := asserted } }

/-- RST_ASSERT (R174): a cold start from any hub state. A low level counts from 1 µs on (R175, R188: rstCommands). -/
def execRstAssert (s : State) : Result := .next (s.coldStart.setRst true)

/-- RST_RELEASE (R174): the start steps begin if VDD is above the run level; they show only when they complete. -/
def execRstRelease (s : State) : Result := .next (s.setRst false)

/-- POWER_UP (R175): VDD rises from below the retain level (R188: supplyCommands). -/
def execPowerUp (s : State) : Result :=
  .next (if s.inputs.supply = .belowRetain then s.coldStart.setSupply .belowRun else s)

/-- VDD_BELOW_RETAIN_LEVEL (R187): VDD falls below the retain level (R188: supplyCommands). -/
def execVddBelowRetainLevel (s : State) : Result :=
  .next (if s.inputs.supply = .belowRetain then s else s.coldStart.setSupply .belowRetain)

/-! ### RESTART (R179) -/

def reqRestart (p : Port) (tag : Byte) (s : State) : State :=
  if s.save.phase = .writing then s.respond p tag .busy .none else s.coldStart

/-- RESTART (R179). -/
def execRestart (p : Port) (s : State) : Result :=
  .next (s.takeRequest p .restart (fun tag r s => match r with
    | .restart => reqRestart p tag s
    | _ => s))

/-! ### The banks (R177, R180, R182) -/

def Bank.sequence? : Bank → Option Nat
  | .valid n _ => some n
  | .invalid => none

/-- The bank that the start steps select (R177). -/
def selectBank (a b : Bank) : Option (BankId × Nat × Snapshot) :=
  match a, b with
  | .valid n x, .valid m y => if n < m then some (.b, m, y) else some (.a, n, x)
  | .valid n x, .invalid => some (.a, n, x)
  | .invalid, .valid m y => some (.b, m, y)
  | .invalid, .invalid => none

/-- The bank and the sequence of a save (R182). -/
def chooseBank (a b : Bank) : BankId × Nat :=
  match a, b with
  | .valid n _, .valid m _ => if n < m then (.a, m + 1) else (.b, n + 1)
  | .valid n _, .invalid => (.b, n + 1)
  | .invalid, .valid m _ => (.a, m + 1)
  | .invalid, .invalid => (.a, 1)

def State.setBank (i : BankId) (b : Bank) (s : State) : State :=
  match i with
  | .a => { s with bankA := b }
  | .b => { s with bankB := b }

/-- An entry as a snapshot records it (R180, R182). -/
def Entry.record (e : Entry) : BankEntry :=
  { register := e.register, owner := e.owner, verifyMask := e.verifyMask, base := e.base, override1 := e.override1
    override2 := e.override2, override3 := e.override3 }

/-- A device as a snapshot records it (R180, R182). -/
def Device.record (dv : Device) : BankDevice :=
  { params := dv.params, active := decide (dv.state ≠ .dormant), entries := dv.entries.map Entry.record }

/-- The snapshot of the image (R182). -/
def State.snapshot (s : State) : Snapshot :=
  { source := s.profiles.source, bootProfile := s.profiles.target
    devices := PerDevice.ofFn (fun d => (s.device d).map Device.record) }

/-! ### SAVE_IMAGE (R181, R182) -/

/-- Starts a save: the snapshot is taken, the bank and the sequence are chosen, and the bank becomes invalid
(R181 to R183). -/
def State.startSave (s : State) : State :=
  let c := chooseBank s.bankA s.bankB
  { s.setBank c.1 .invalid with
    save := { s.save with phase := .writing, record := some { bank := c.1, sequence := c.2, snapshot := s.snapshot } } }

/-- Does the newest valid bank hold the greatest sequence number (R181 check 2)? -/
def State.sequenceSpent (s : State) : Bool :=
  match selectBank s.bankA s.bankB with
  | some (_, n, _) => decide (n = Config.lastSequence)
  | none => false

def reqSaveImage (p : Port) (tag : Byte) (s : State) : State :=
  if s.save.phase = .writing then s.respond p tag .busy .none
  else if s.sequenceSpent then s.respond p tag .failed .none
  else if s.capFull p then s.respond p tag .busy .none
  else s.startSave.await p ⟨tag, .saveImage, .save⟩

/-- SAVE_IMAGE (R181, R182). -/
def execSaveImage (p : Port) (s : State) : Result :=
  .next (s.takeRequest p .saveImage (fun tag r s => match r with
    | .saveImage => reqSaveImage p tag s
    | _ => s))

/-! ### SAVE_END (R183) -/

/-- The answer to the SAVE_IMAGE that waits on the save. -/
def saveAnswer (ok : Bool) (sequence : Nat) (o : Outstanding) : Option (OutcomeCode × Payload) :=
  if o.wait = .save then some (if ok then (.ok, .sequence sequence) else (.failed, .none)) else none

/-- Steps 2 to 5 of R183, and step 4 of R186: the outcome and sequence are kept, the phase becomes IDLE, the SAVE_IMAGE is
answered and SAVE_DONE is posted. -/
def State.closeSave (ok : Bool) (sequence : Nat) (s : State) : State :=
  let s1 := { s with save :=
    { phase := .idle, record := none, lastOutcome := if ok then .ok else .failed, lastSequence := sequence } }
  (s1.answer (saveAnswer ok sequence)).post (.saveDone ok sequence)

/-- SAVE_END (R183). -/
def execSaveEnd (verified : Bool) (s : State) : Result :=
  .next (match s.save.phase, s.save.record with
    | .writing, some r =>
      (s.setBank r.bank (if verified then .valid r.sequence r.snapshot else .invalid)).closeSave verified r.sequence
    | _, _ => s)

/-! ### The start steps (R176, R178) -/

/-- An entry as the image build makes it (R23, R7). -/
def BankEntry.build (b : BankEntry) : Entry :=
  { register := b.register, owner := b.owner, verifyMask := b.verifyMask, base := b.base, override1 := b.override1
    override2 := b.override2, override3 := b.override3, state := .pending, applied := none, attempts := 0
    stagedBase := none, staged1 := none, staged2 := none, staged3 := none, mark := false }

/-- A device as the image build makes it (R23, R1, R90). An active device with no entries is in phase MARKER (R35). -/
def BankDevice.build (target : Profile) (b : BankDevice) : Device :=
  { params := b.params
    state := if b.active then .loading else .dormant
    phase := if b.active && b.entries.isEmpty then .marker else .entries
    probeRemaining := b.params.probeInterval
    probeElapsed := 0
    probeDue := false
    losses := 0
    profile := target
    entries := b.entries.map BankEntry.build }

/-- The profile controller at a cold start (R124): psel is the sample taken in START, level the level when READY comes. -/
def coldProfiles (snap : Option Snapshot) (psel level : Profile) : ProfileController :=
  let source := match snap with
    | some x => x.source
    | none => .requests
  let boot : Profile := match snap with
    | some x => x.bootProfile
    | none => 0
  ProfileController.newLevel level
    { source := source, target := if source = .lines then psel else boot, lineLevel := psel, candidate := none
      candidateTime := 0, transition := none }

/-- The device table at a cold start (R23). -/
def coldDevices (snap : Option Snapshot) (target : Profile) : PerDevice (Option Device) :=
  match snap with
  | some x => PerDevice.ofFn (fun d => (x.devices.get d).map (BankDevice.build target))
  | none => PerDevice.const none

/-- The origin of a selected bank (R177). -/
def originOf : Option (BankId × Nat × Snapshot) → Origin
  | some (.a, _) => .bankA
  | some (.b, _) => .bankB
  | none => .noImage

/-- The port address that the levels of ADR1:0 give (R148). -/
def portAddressOf (adr : Fin 4) : BitVec 7 := BitVec.ofNat 7 (Config.addressBase + adr.val)

/-- The framing state as the hub becomes READY (R171, R173). -/
def framingAtReady (lfrm : Bool) : Framing := if lfrm then .unsynced else .idle

/-- The start steps are carried out and the hub becomes READY (R176, R178; log entries 10 and 11). Port H enters IDLE (R148,
R178), UNSYNCED until it sees a bus condition (R159, log entry 2). -/
def State.startUp (adr : Fin 4) (psel : Profile) (s : State) : State :=
  let sel := selectBank s.bankA s.bankB
  let snap := sel.map (fun x => x.2.2)
  let s1 := s.coldStart
  let profiles := coldProfiles snap psel s.inputs.psel
  State.post (.started (originOf sel))
    { s1 with
      hubState := .ready
      origin := originOf sel
      profiles := profiles
      devices := coldDevices snap profiles.target
      portH := { PortH.cold with address := portAddressOf adr, phase := .idle, unsynced := true }
      portL := { PortL.cold with framing := framingAtReady s.inputs.lfrm } }

/-- START_STEPS_COMPLETE (R178): in START, with RST# released and VDD above the run level (R175). -/
def execStartStepsComplete (adr : Fin 4) (psel : Profile) (s : State) : Result :=
  .next (if s.hubState = .start ∧ s.inputs.rst = false ∧ s.inputs.supply = .aboveRun then s.startUp adr psel else s)

/-! ### LOW_SUPPLY (R185, R160, R173) -/

/-- Port H at the entry to LOW_SUPPLY (R160). The bytes assembled are discarded in phase WRITE; in every other phase the
buffer is left as it stands: a COMPLETE frame is kept, and SKIP has no further effect (log entry 8). -/
def PortH.holdEntry (q : PortH) : PortH :=
  { q with
    phase := .inactive
    unsynced := false
    buffer := match q.phase, q.buffer with
      | .write, .assembling _ _ => .empty
      | _, b => b
    cursor := .none
    stopped := false
    ack := false }

/-- Port L at the entry to LOW_SUPPLY (R173). The outbound latch and cursor are kept. -/
def PortL.holdEntry (q : PortL) : PortL :=
  { q with
    framing := .inactive
    latch := none
    buffer := match q.buffer with
      | .complete f => .complete f
      | .empty | .assembling _ _ => .empty }

/-- A save in WRITING is cut (R185). Its bank became invalid as the save began. -/
def SaveUnit.cut (u : SaveUnit) : SaveUnit :=
  match u.phase with
  | .writing => { u with phase := .aborted }
  | .idle | .aborted => u

/-- READY enters LOW_SUPPLY (R185). -/
def State.enterHold (s : State) : State :=
  let s1 := s.cutTxn
  { s1 with
    hubState := .lowSupply
    portH := s1.portH.holdEntry
    portL := s1.portL.holdEntry
    save := s1.save.cut }

/-- VDD_BELOW_RUN_LEVEL (R174, R185): VDD falling below the run level enters LOW_SUPPLY (R188: supplyCommands). -/
def execVddBelowRunLevel (s : State) : Result :=
  .next (if s.hubState = .ready then s.enterHold.setSupply .belowRun
    else if s.inputs.supply = .aboveRun then s.setSupply .belowRun
    else s)

/-! ### The return to READY (R186) -/

/-- A device's recovery (R88). -/
def Device.recover (dv : Device) : Device :=
  match dv.state with
  | .running | .diverged =>
    if dv.params.probeInterval = 0 then dv.beginLoad
    else { dv with state := .suspect, probeDue := true, probeRemaining := 0, probeElapsed := 0 }
  | .suspect => { dv with probeDue := true, probeRemaining := 0, probeElapsed := 0 }
  | .loading => dv.beginLoad
  | .dormant | .fenced => dv

/-- Step 4 of R186: an aborted save is answered FAILED. -/
def State.closeAbortedSave (s : State) : State :=
  match s.save.phase, s.save.record with
  | .aborted, some r => s.closeSave false r.sequence
  | _, _ => s

/-- LOW_SUPPLY returns to READY with recovery (R186). Port H enters IDLE (R160), UNSYNCED until it sees a bus condition
(R159, log entry 2). -/
def State.leaveHold (s : State) : State :=
  let s1 :=
    { s with
      hubState := .ready
      profiles := s.profiles.newLevel s.inputs.psel
      devices := PerDevice.ofFn (fun d => (s.device d).map Device.recover) }
  let s2 := s1.closeAbortedSave.post .supplyRestored
  { s2 with
    portH := { s2.portH with phase := .idle, unsynced := true }
    portL := { s2.portL with framing := framingAtReady s2.inputs.lfrm } }

/-- VDD_ABOVE_RUN_LEVEL (R174, R186): VDD rising above the run level leaves LOW_SUPPLY (R188: supplyCommands). -/
def execVddAboveRunLevel (s : State) : Result :=
  .next (if s.hubState = .lowSupply then (s.setSupply .aboveRun).leaveHold else s.setSupply .aboveRun)

end Sys2Proof.Machine
end

