-- ==== Sys2Proof/Machine/StatusRequests.lean ====
section
/-! DEFINITION. READ_STATUS, READ_NOTICES, SET_NOTICE_MASK, SET_ATTENTION (7.4 to 7.7) and BAD_FRAME_TAKE (R128). -/

namespace Sys2Proof.Machine

/-! ### READ_STATUS (R134 to R136) -/

/-- The hub form (R135). -/
def State.hubForm (s : State) : HubForm :=
  { source := s.profiles.source
    target := s.profiles.target
    transition := s.profiles.transition.map Transition.target
    saving := decide (s.save.phase = .writing)
    lastOutcome := s.save.lastOutcome
    lastSequence := s.save.lastSequence
    origin := s.origin
    hold := s.inputs.hold
    poolInUse := s.poolInUse
    devices := PerDevice.ofFn (fun d => (s.device d).map Device.state) }

/-- The device form (R136). -/
def State.deviceForm (s : State) (d : DevNum) (dv : Device) : DeviceForm :=
  { state := dv.state
    phase := dv.phase
    profile := dv.profile
    claim := (s.claim d).map (fun c => (c.holder, c.lease))
    losses := dv.losses
    fenceLimit := dv.params.fenceLimit
    probeInterval := dv.params.probeInterval
    probeRemaining := dv.probeRemaining
    pending := dv.entries.countP Entry.isPending
    inFlight := dv.entries.countP Entry.isInFlight
    applied := dv.entries.countP Entry.isApplied
    failed := dv.failedCount }

def reqReadStatus (p : Port) (tag device : Byte) (s : State) : State :=
  if device = 255 then s.respond p tag .ok (.hub s.hubForm)
  else match s.findDevice device with
    | none => s.respond p tag .notFound .none
    | some (d, dv) => s.respond p tag .ok (.device (s.deviceForm d dv))

/-- READ_STATUS (R134). -/
def execReadStatus (p : Port) (s : State) : Result :=
  .next (s.takeRequest p .readStatus (fun tag r s => match r with
    | .readStatus d => reqReadStatus p tag d s
    | _ => s))

/-! ### READ_NOTICES (R142) -/

/-- The payload of a READ_NOTICES (R142). -/
def PortSide.noticePayload (q : PortSide) : Payload :=
  .notices (q.notices.take Config.noticesPerRead) (decide (Config.noticesPerRead < q.notices.length)) q.lost

/-- The notice list after a READ_NOTICES (R142). -/
def PortSide.drained (q : PortSide) : PortSide :=
  { q with notices := q.notices.drop Config.noticesPerRead, lost := false }

def reqReadNotices (p : Port) (tag : Byte) (s : State) : State :=
  (s.modPort p PortSide.drained).respond p tag .ok (s.port p).noticePayload

/-- READ_NOTICES (R142). -/
def execReadNotices (p : Port) (s : State) : Result :=
  .next (s.takeRequest p .readNotices (fun tag r s => match r with
    | .readNotices => reqReadNotices p tag s
    | _ => s))

/-! ### SET_NOTICE_MASK (R143) -/

def reqSetNoticeMask (p : Port) (tag : Byte) (mask : BitVec 10) (s : State) : State :=
  (s.modPort p (fun q => { q with mask := mask ||| 1 })).respond p tag .ok .none

/-- SET_NOTICE_MASK (R143). -/
def execSetNoticeMask (p : Port) (s : State) : Result :=
  .next (s.takeRequest p .setNoticeMask (fun tag r s => match r with
    | .setNoticeMask m => reqSetNoticeMask p tag m s
    | _ => s))

/-! ### SET_ATTENTION (R144) -/

def reqSetAttention (p : Port) (tag : Byte) (response notice : Bool) (s : State) : State :=
  (s.modPort p (fun q => { q with responseEnable := response, noticeEnable := notice })).respond p tag .ok .none

/-- SET_ATTENTION (R144). The attention output is a condition of the state (State.attention), so it is judged again here. -/
def execSetAttention (p : Port) (s : State) : Result :=
  .next (s.takeRequest p .setAttention (fun tag r s => match r with
    | .setAttention x y => reqSetAttention p tag x y s
    | _ => s))

/-- BAD_FRAME_TAKE (R128, R129). -/
def execBadFrameTake (p : Port) (s : State) : Result := .next (s.takeBadFrame p)

end Sys2Proof.Machine
end

