-- ==== Sys2Proof/Machine/TimerSteps.lean ====
section
/-! DEFINITION. The timed happenings: expiry of a probe timer (R76) and of a lease (R103), the debounce of PSEL1:0 (R111),
and the running of all timers for one millisecond, which is what an idle step does (log entry 5). -/

namespace Sys2Proof.Machine

/-! ### The commands, accepted whatever count remains (log entry 7) -/

/-- A device's probe timer has run out, if it runs (R76). -/
def State.probeTimerOut (d : DevNum) (s : State) : State :=
  match s.device d with
  | some dv => if s.ready && dv.timerRuns then s.setDevice d dv.timerOut else s
  | none => s

/-- PROBE_TIMER_EXPIRY (R76). -/
def execProbeTimerExpiry (device : Nat) (s : State) : Result :=
  .next (match devNum? device with
    | some d => s.probeTimerOut d
    | none => s)

/-- CLAIM_EXPIRED (R103): leases run while the hub is READY (R94). -/
def execClaimExpired (device : Nat) (s : State) : Result :=
  .next (match devNum? device with
    | some d => if s.ready then s.expireClaim d else s
    | none => s)

/-- PSEL_CHANGE (R111): a change of the level acts on the candidate while the hub is READY. -/
def execPselChange (level : Profile) (s : State) : Result :=
  .next (if level = s.inputs.psel then s
    else
      { s with
        inputs := { s.inputs with psel := level }
        profiles := if s.ready then s.profiles.levelChanged level else s.profiles })

/-- LINE_CHANGE (R111): the candidate time has reached 2 ms. -/
def execLineChange (s : State) : Result := .next (if s.ready then s.lineChange else s)

/-! ### One millisecond of running time -/

/-- A running probe timer counts one millisecond; it runs out as probe remaining reaches 0 (R76). -/
def Device.tick (dv : Device) : Device :=
  if dv.timerRuns then
    if dv.probeElapsed + 1 < Config.probeUnit then { dv with probeElapsed := dv.probeElapsed + 1 }
    else if 1 < dv.probeRemaining then { dv with probeElapsed := 0, probeRemaining := dv.probeRemaining - 1 }
    else dv.timerOut
  else dv

/-- A lease counts one millisecond; the claim expires as lease remaining reaches 0 (R94, R103). -/
def State.tickLease (d : DevNum) (s : State) : State :=
  match s.claim d with
  | some c =>
    if c.elapsed + 1 < Config.leaseUnit then s.setClaim d (some { c with elapsed := c.elapsed + 1 })
    else if 1 < c.lease then s.setClaim d (some { c with elapsed := 0, lease := c.lease - 1 })
    else s.expireClaim d
  | none => s

/-- The debounce counts one millisecond; the line changes as the candidate time reaches 2 ms (R111). -/
def State.tickDebounce (s : State) : State :=
  if s.profiles.candidate.isSome then
    if s.profiles.candidateTime + 1 < Config.debounceTime then
      { s with profiles := { s.profiles with candidateTime := s.profiles.candidateTime + 1 } }
    else s.lineChange
  else s

/-- One millisecond passes. Timers run while the hub is READY alone (R76, R94, R111). Happenings of the same millisecond
come in a fixed order: the leases, the probe timers, the debounce, and among devices in ascending order (log entry 9). -/
def State.tick (s : State) : State :=
  if s.ready then
    let s1 := (((((s.tickLease 0).tickLease 1).tickLease 2).tickLease 3).tickLease 4).tickLease 5
    State.tickDebounce { s1 with devices := PerDevice.ofFn (fun d => (s1.device d).map Device.tick) }
  else s

end Sys2Proof.Machine
end

