-- ==== Sys2Proof/Machine/Dispatch.lean ====
section
/-! DEFINITION. The dispatch: one arm for each command. -/

namespace Sys2Proof.Machine

def exec (i : Instr) (s : State) : Host.Outcome State Fault Refusal :=
  match i with
  | .readStatus p => Sys2Proof.Machine.execReadStatus p s
  | .readNotices p => Sys2Proof.Machine.execReadNotices p s
  | .setNoticeMask p => Sys2Proof.Machine.execSetNoticeMask p s
  | .setAttention p => Sys2Proof.Machine.execSetAttention p s
  | .defineDevice p => Sys2Proof.Machine.execDefineDevice p s
  | .removeDevice p => Sys2Proof.Machine.execRemoveDevice p s
  | .addEntry p => Sys2Proof.Machine.execAddEntry p s
  | .removeEntry p => Sys2Proof.Machine.execRemoveEntry p s
  | .setEntryAttr p => Sys2Proof.Machine.execSetEntryAttr p s
  | .readEntry p => Sys2Proof.Machine.execReadEntry p s
  | .write p => Sys2Proof.Machine.execWrite p s
  | .activate p => Sys2Proof.Machine.execActivate p s
  | .deactivate p => Sys2Proof.Machine.execDeactivate p s
  | .resync p => Sys2Proof.Machine.execResync p s
  | .resetDevice p => Sys2Proof.Machine.execResetDevice p s
  | .readDevice p => Sys2Proof.Machine.execReadDevice p s
  | .rawWrite p => Sys2Proof.Machine.execRawWrite p s
  | .claim p => Sys2Proof.Machine.execClaim p s
  | .commit p => Sys2Proof.Machine.execCommit p s
  | .abandon p => Sys2Proof.Machine.execAbandon p s
  | .selectProfile p => Sys2Proof.Machine.execSelectProfile p s
  | .setProfileSource p => Sys2Proof.Machine.execSetProfileSource p s
  | .saveImage p => Sys2Proof.Machine.execSaveImage p s
  | .restart p => Sys2Proof.Machine.execRestart p s
  | .probeGrant => Sys2Proof.Machine.execProbeGrant s
  | .pushGrant => Sys2Proof.Machine.execPushGrant s
  | .markerGrant => Sys2Proof.Machine.execMarkerGrant s
  | .manualRead => Sys2Proof.Machine.execManualRead s
  | .manualWrite => Sys2Proof.Machine.execManualWrite s
  | .followOnFrameStart => Sys2Proof.Machine.execFollowOnFrameStart s
  | .pushWriteFrameEnd => Sys2Proof.Machine.execPushWriteFrameEnd s
  | .readbackEnd bits => Sys2Proof.Machine.execReadbackEnd bits s
  | .markerWriteFrameEnd => Sys2Proof.Machine.execMarkerWriteFrameEnd s
  | .confirmReadEnd bits => Sys2Proof.Machine.execConfirmReadEnd bits s
  | .probeReadEnd bits => Sys2Proof.Machine.execProbeReadEnd bits s
  | .manualReadFrameEnd bits => Sys2Proof.Machine.execManualReadFrameEnd bits s
  | .manualWriteFrameEnd => Sys2Proof.Machine.execManualWriteFrameEnd s
  | .probeTimerExpiry device => Sys2Proof.Machine.execProbeTimerExpiry device s
  | .claimExpired device => Sys2Proof.Machine.execClaimExpired device s
  | .pselChange level => Sys2Proof.Machine.execPselChange level s
  | .lineChange => Sys2Proof.Machine.execLineChange s
  | .holdChange asserted => Sys2Proof.Machine.execHoldChange asserted s
  | .saveEnd verified => Sys2Proof.Machine.execSaveEnd verified s
  | .rstAssert => Sys2Proof.Machine.execRstAssert s
  | .rstRelease => Sys2Proof.Machine.execRstRelease s
  | .powerUp => Sys2Proof.Machine.execPowerUp s
  | .vddBelowRunLevel => Sys2Proof.Machine.execVddBelowRunLevel s
  | .vddAboveRunLevel => Sys2Proof.Machine.execVddAboveRunLevel s
  | .vddBelowRetainLevel => Sys2Proof.Machine.execVddBelowRetainLevel s
  | .startStepsComplete adr psel => Sys2Proof.Machine.execStartStepsComplete adr psel s
  | .startCondition partialBits => Sys2Proof.Machine.execStartCondition partialBits s
  | .stopCondition partialBits => Sys2Proof.Machine.execStopCondition partialBits s
  | .addressByte b => Sys2Proof.Machine.execAddressByte b s
  | .writeDataByte b => Sys2Proof.Machine.execWriteDataByte b s
  | .responseByteAck ack => Sys2Proof.Machine.execResponseByteAck ack s
  | .lfrmAssert => Sys2Proof.Machine.execLfrmAssert s
  | .lfrmDeassert => Sys2Proof.Machine.execLfrmDeassert s
  | .lstbFall data => Sys2Proof.Machine.execLstbFall data s
  | .inboundByteTake => Sys2Proof.Machine.execInboundByteTake s
  | .outboundLatchLoad => Sys2Proof.Machine.execOutboundLatchLoad s
  | .lackAssert => Sys2Proof.Machine.execLackAssert s
  | .lackRise => Sys2Proof.Machine.execLackRise s
  | .badFrameTake p => Sys2Proof.Machine.execBadFrameTake p s

end Sys2Proof.Machine
end

