-- ==== Sys2Proof/Machine/Lines.lean ====
section
/-! DEFINITION. The lines of the device link as the hub drives them (R52 to R54, R56, R65), and the commands that levels of
VDD and of RST# amount to (R188). -/

namespace Sys2Proof.Machine

/-! ### SEL5:0, DCLK and DDAT -/

/-- What the hub does with the three link outputs at one bit of a frame, or while the link is idle (R52). -/
structure LinkLines where
  /-- The device whose select line is asserted; none: every select line is deasserted. -/
  select : Option DevNum
  /-- The DCLK period in nanoseconds; none: DCLK is stopped low. -/
  dclkPeriod : Option Nat
  /-- The level that the hub drives on DDAT; none: the hub releases DDAT. -/
  ddat : Option Bool
deriving DecidableEq, Repr

/-- The idle condition of the link (R52), which is also its START level (R175) and what a cut leaves (R65). -/
def LinkLines.idle : LinkLines := { select := none, dclkPeriod := none, ddat := none }

/-- The level that the hub drives on DDAT in the k-th bit of a frame, counted from 0 in the order of sending: all 27 bits of a
write frame (R53), and of a read frame the 10 bits of operation and register, after which it releases DDAT (R54). -/
def LinkFrame.drives (f : LinkFrame) (k : Nat) : Option Bool :=
  match f.op with
  | .write => if k < 27 then some (f.writeBits.getLsbD (26 - k)) else none
  | .read => if k < 10 then some (f.header.getLsbD (9 - k)) else none

/-- The DCLK period of a frame's speed class, in nanoseconds (R56). -/
def LinkFrame.periodNs (f : LinkFrame) : Nat := Config.dclkPeriodNs * 2 ^ f.speedClass

/-- The link outputs in the k-th bit of the frame on the link, and in the idle condition while no frame is on it
(R52, R56, R65). -/
def State.linkLines (s : State) (k : Nat) : LinkLines :=
  match s.link with
  | some f => { select := s.selected, dclkPeriod := some f.periodNs, ddat := f.drives k }
  | none => LinkLines.idle

/-- The level on DDAT: what the hub drives, else what the slave drives, else the pull-up's high level (R52, R55). -/
def LinkLines.ddatLevel (x : LinkLines) (slave : Option Bool) : Bool := (x.ddat <|> slave).getD true

/-! ### VDD and RST# (R188) -/

/-- The commands, in order, that VDD standing at so many millivolts amounts to, from where it stood before: the run level is
crossed downward below 2.80 V and upward above 2.90 V, the retain level at 1.60 V (R174, R188). -/
def supplyCommands (before : Supply) (mv : Nat) : List Instr :=
  match before with
  | .aboveRun =>
    if mv < Config.retainLevelMv then [.vddBelowRunLevel, .vddBelowRetainLevel]
    else if mv < Config.runLevelFallingMv then [.vddBelowRunLevel]
    else []
  | .belowRun =>
    if mv < Config.retainLevelMv then [.vddBelowRetainLevel]
    else if Config.runLevelRisingMv < mv then [.vddAboveRunLevel]
    else []
  | .belowRetain =>
    if mv < Config.retainLevelMv then []
    else if Config.runLevelRisingMv < mv then [.powerUp, .vddAboveRunLevel]
    else [.powerUp]

/-- The command that a low level of RST# amounts to: none where it is shorter than 1 µs, since it is filtered
(R175, R188). -/
def rstCommands (lowNs : Nat) : List Instr := if lowNs < Config.rstLowNs then [] else [.rstAssert]

end Sys2Proof.Machine
end

