-- ==== Sys2Proof/Safety.lean ====
section
/-! DEFINITION. What a safe run keeps: the laws that the manual states of the hub as a whole, each as a check on one state,
and the vocabulary of the statements about requests. -/

namespace Sys2Proof.Machine

/-- Does f hold of every device number? -/
def allDevices (f : DevNum → Bool) : Bool := f 0 && f 1 && f 2 && f 3 && f 4 && f 5

/-- Does f hold of every entry of every defined device? -/
def State.allEntries (s : State) (f : DevNum → Device → Entry → Bool) : Bool :=
  allDevices (fun d => match s.device d with
    | some dv => dv.entries.all (f d dv)
    | none => true)

/-- Does f hold of every defined device? -/
def State.allDefined (s : State) (f : DevNum → Device → Bool) : Bool :=
  allDevices (fun d => match s.device d with
    | some dv => f d dv
    | none => true)

/-! ### The laws -/

/-- R126, R127: a port's queue holds at most 4 frames, it has at most 4 outstanding requests, and its responses plus its
outstanding requests never exceed 8. -/
def PortSide.queueLaw (q : PortSide) : Bool :=
  decide (q.requests.length ≤ 4) && decide (q.outstanding.length ≤ 4) &&
    decide (q.responses.length + q.outstanding.length ≤ 8)

def State.queueLaw (s : State) : Bool := (s.port .h).queueLaw && (s.port .l).queueLaw

/-- Are no two notices of a list of the same kind for the same device? -/
def distinctKeys : List Notice → Bool
  | [] => true
  | n :: ns => !ns.any (Notice.sameKey n) && distinctKeys ns

/-- R139, R140: a notice list holds at most 16 notices, and never two of the same kind for the same device. -/
def PortSide.noticeLaw (q : PortSide) : Bool := decide (q.notices.length ≤ 16) && distinctKeys q.notices

def State.noticeLaw (s : State) : Bool := (s.port .h).noticeLaw && (s.port .l).noticeLaw

/-- Are registers in strictly ascending order? -/
def ascending : List Register → Bool
  | [] => true
  | [_] => true
  | a :: b :: rest => decide (a.toNat < b.toNat) && ascending (b :: rest)

/-- R5 on one device's list: strictly ascending, without the check register, at most 128 entries. -/
def listLaw (checkRegister : Register) (rs : List Register) : Bool :=
  ascending rs && !rs.contains checkRegister && decide (rs.length ≤ 128)

/-- R15: the ranges of the seven parameters. -/
def Params.inRange (ps : Params) : Bool :=
  decide (ps.speedClass ≤ 3) && decide (ps.retryLimit ≤ 7) && decide (ps.probeInterval ≤ 250) &&
    decide (1 ≤ ps.fenceLimit) && decide (ps.fenceLimit ≤ 7)

/-- A recorded device satisfies R5 and R15. -/
def BankDevice.lawful (b : BankDevice) : Bool :=
  b.params.inRange && listLaw b.params.checkRegister (b.entries.map BankEntry.register)

/-- A snapshot holds only lists and parameters that are valid, and at most 320 entries (R180). -/
def Snapshot.lawful (x : Snapshot) : Bool :=
  allDevices (fun d => match x.devices.get d with
    | some b => b.lawful
    | none => true) &&
  decide (sumDevices (fun d => match x.devices.get d with
    | some b => b.entries.length
    | none => 0) ≤ 320)

def Bank.lawful : Bank → Bool
  | .invalid => true
  | .valid _ x => x.lawful

/-- R4, R5, R15: the image's lists, parameters and pool, and those that the banks and the save buffer hold (R180). -/
def State.imageLaw (s : State) : Bool :=
  s.allDefined (fun _ dv =>
    dv.params.inRange && listLaw dv.params.checkRegister (dv.entries.map Entry.register)) &&
  decide (s.poolInUse ≤ 320) && s.bankA.lawful && s.bankB.lawful &&
  (match s.save.record with
    | some r => r.snapshot.lawful
    | none => true)

/-- R24: the applied value of an APPLIED entry equals its desired value. -/
def State.appliedLaw (s : State) : Bool :=
  s.allEntries (fun _ dv e => !e.isApplied || decide (e.applied = some (e.desired dv.profile)))

/-- R24: an IN_FLIGHT entry is carried by the push in progress, which no request has marked for discard; with the lists in
strictly ascending order (R5) there is at most one such entry in the hub. -/
def State.flightLaw (s : State) : Bool :=
  s.imageLaw && s.allEntries (fun d _ e => !e.isInFlight || (match s.txn with
    | some t => decide (t.kind = .push) && decide (t.device = d) && decide (t.register = e.register) && !t.discard
    | none => false))

/-- R81: the consecutive-loss count is below the fence limit unless the device is FENCED, and then equals it. -/
def Device.lossLaw (dv : Device) : Bool :=
  if dv.state = .fenced then decide (dv.losses = dv.params.fenceLimit) else decide (dv.losses < dv.params.fenceLimit)

/-- R36, R60: the device of a marker transaction that is not marked for discard is LOADING. -/
def State.markerLaw (s : State) : Bool :=
  allDevices (fun d => !s.markerGranted d || (match s.device d with
    | some dv => decide (dv.state = .loading)
    | none => false))

/-- R81, with what keeps it: parameters in range, and no marker transaction to be judged on a device that is not LOADING. -/
def State.lossLaw (s : State) : Bool := s.imageLaw && s.markerLaw && s.allDefined (fun _ dv => dv.lossLaw)

/-- R117: a device whose profile in effect differs from the target holds a claim, and is deferred in the transition. -/
def State.profileLaw (s : State) : Bool :=
  s.allDefined (fun d dv => decide (dv.profile = s.profiles.target) || (s.claimed d && s.deferred d))

/-- R11: an entry holds a staged content only while its device holds a claim. -/
def State.stagedLaw (s : State) : Bool := s.allEntries (fun d _ e => !e.hasStaged || s.claimed d)

/-- R119: an entry that carries a mark is PENDING or IN_FLIGHT, and a transition is in flight. -/
def State.markLaw (s : State) : Bool :=
  s.allEntries (fun _ _ e => !e.mark || ((e.isPending || e.isInFlight) && s.profiles.transition.isSome))

/-- R33: a RUNNING device has no FAILED entry, a DIVERGED device has one. -/
def Device.failLaw (dv : Device) : Bool :=
  (decide (dv.state ≠ .running) || !dv.anyFailed) && (decide (dv.state ≠ .diverged) || dv.anyFailed)

def State.failLaw (s : State) : Bool := s.allDefined (fun _ dv => dv.failLaw)

/-- R52, R61, R174: outside READY no transaction is in progress, the link is idle and both ports are INACTIVE; and a frame is
on the link only within a transaction. -/
def State.idleLaw (s : State) : Bool :=
  (s.ready || (s.txn.isNone && decide (s.portH.phase = .inactive) && decide (s.portL.framing = .inactive))) &&
  (s.link.isNone || s.txn.isSome)

/-! ### Vocabulary -/

/-- The request engine's next take is of port p's head frame, which carries the request r with a tag from 0 to 239 that no
outstanding request of the port has, on a port that the kind is accepted from: the frame passes steps 1 to 4 of R128. -/
abbrev State.Takes (s : State) (p : Port) (r : Request) (tag : Byte) : Prop :=
  s.nextTake = some p ∧ (s.port p).requests.head? = some (r.frame tag) ∧ tag.toNat < 240 ∧
    (∀ o ∈ (s.port p).outstanding, o.tag ≠ tag) ∧ (r.kind.hOnly = true → p = .h)

/-- The device operand names the defined device d with the record dv. -/
abbrev State.Names (s : State) (b : Byte) (d : DevNum) (dv : Device) : Prop :=
  b.toNat = d.val ∧ s.device d = some dv

/-- The length of a kind's frame (R189). -/
def ReqKind.frameLength : ReqKind → Nat
  | .readNotices | .saveImage | .restart => 2
  | .readStatus | .setAttention | .removeDevice | .deactivate | .abandon | .setProfileSource => 3
  | .setNoticeMask | .removeEntry | .activate | .resync | .resetDevice | .readDevice | .claim | .commit
  | .selectProfile => 4
  | .readEntry => 5
  | .rawWrite => 6
  | .setEntryAttr => 7
  | .write => 8
  | .addEntry => 9
  | .defineDevice => 11

/-- Does a field that R189 shows as zero hold a set bit: bits 7:1 of wait flags and read flags, bits 7:2 of write flags and
attention flags, bits 15:10 of the notice mask (R190 case 4)? The bytes are those of the whole frame. -/
def ReqKind.zeroFieldSet (k : ReqKind) (bytes : List Byte) : Bool :=
  match k with
  | .activate | .resync | .resetDevice | .commit | .selectProfile => decide (bytes.getD 3 0 &&& 0xFE ≠ 0)
  | .readEntry => decide (bytes.getD 4 0 &&& 0xFE ≠ 0)
  | .write => decide (bytes.getD 5 0 &&& 0xFC ≠ 0)
  | .setAttention => decide (bytes.getD 2 0 &&& 0xFC ≠ 0)
  | .setNoticeMask => decide (bytes.getD 2 0 &&& 0xFC ≠ 0)
  | _ => false

/-- The command that takes a frame of a kind from a port. -/
def ReqKind.command : ReqKind → Port → Instr
  | .readStatus => .readStatus
  | .readNotices => .readNotices
  | .setNoticeMask => .setNoticeMask
  | .setAttention => .setAttention
  | .defineDevice => .defineDevice
  | .removeDevice => .removeDevice
  | .addEntry => .addEntry
  | .removeEntry => .removeEntry
  | .setEntryAttr => .setEntryAttr
  | .readEntry => .readEntry
  | .write => .write
  | .activate => .activate
  | .deactivate => .deactivate
  | .resync => .resync
  | .resetDevice => .resetDevice
  | .readDevice => .readDevice
  | .rawWrite => .rawWrite
  | .claim => .claim
  | .commit => .commit
  | .abandon => .abandon
  | .selectProfile => .selectProfile
  | .setProfileSource => .setProfileSource
  | .saveImage => .saveImage
  | .restart => .restart

/-- The device operand of a request that acts on an existing device (R1): not DEFINE_DEVICE's, nor READ_STATUS's 255. -/
def Request.device? : Request → Option Byte
  | .readStatus d => if d = 255 then none else some d
  | .removeDevice d | .addEntry d _ _ _ _ | .removeEntry d _ | .setEntryAttr d _ _ _ | .readEntry d _ _
  | .write d _ _ _ _ _ | .activate d _ | .deactivate d | .resync d _ | .resetDevice d _ | .readDevice d _
  | .rawWrite d _ _ | .claim d _ | .commit d _ | .abandon d => some d
  | .readNotices | .setNoticeMask _ | .setAttention _ _ | .defineDevice _ _ _ _ _ _ _ _ | .selectProfile _ _
  | .setProfileSource _ | .saveImage | .restart => none

/-- The ports of a state, with one response more at the tail of port p's response queue (R131). -/
def State.answered (s : State) (p : Port) (tag : Byte) (o : OutcomeCode) (pl : Payload) : PerPort PortSide :=
  s.ports.set p { s.port p with responses := (s.port p).responses ++ [⟨tag, o, pl⟩] }

/-- The ports of a state, with one outstanding request more for port p (R130). -/
def State.deferredTo (s : State) (p : Port) (o : Outstanding) : PerPort PortSide :=
  s.ports.set p { s.port p with outstanding := (s.port p).outstanding ++ [o] }

/-- Has the port 4 outstanding deferred requests, so that one more would be refused BUSY (R130)? -/
abbrev State.full (s : State) (p : Port) : Prop := 4 ≤ (s.port p).outstanding.length

/-- A byte of eight bits, bit 7 first. -/
def byteOfBits (b7 b6 b5 b4 b3 b2 b1 b0 : Bool) : Byte :=
  BitVec.ofBool b7 ++ BitVec.ofBool b6 ++ BitVec.ofBool b5 ++ BitVec.ofBool b4 ++ BitVec.ofBool b3 ++ BitVec.ofBool b2 ++
    BitVec.ofBool b1 ++ BitVec.ofBool b0

/-! ### Vocabulary of the happenings that answer and post -/

/-- Both ports of a state, each changed by f. -/
def State.eachPort (s : State) (f : PortSide → PortSide) : PerPort PortSide := ⟨f s.ports.h, f s.ports.l⟩

/-- Answers for the entry waits on one entry, by their expected values (R44). -/
def toEntryWaits (d : DevNum) (r : Register) (g : Value → OutcomeCode × Payload) (o : Outstanding) :
    Option (OutcomeCode × Payload) :=
  match o.wait with
  | .entry d' r' expected => if d' = d ∧ r' = r then some (g expected) else none
  | _ => none

/-- One answer for the entry waits on every entry of a device (R44). -/
def toEntryWaitsOf (d : DevNum) (c : OutcomeCode) (o : Outstanding) : Option (OutcomeCode × Payload) :=
  match o.wait with
  | .entry d' _ _ => if d' = d then some (c, .none) else none
  | _ => none

/-- Answers for the device-settle waits on a device, by the commit count that a COMMIT left with its wait (R46, R101). -/
def toSettleWaits (d : DevNum) (g : Option Nat → OutcomeCode × Payload) (o : Outstanding) :
    Option (OutcomeCode × Payload) :=
  match o.wait with
  | .settle d' count => if d' = d then some (g count) else none
  | _ => none

/-- One answer for the waiters of the transition in flight (R116, R122). -/
def toWaiters (a : OutcomeCode × Payload) (o : Outstanding) : Option (OutcomeCode × Payload) :=
  if o.wait = .transition then some a else none

/-- The answer of R46 and R101 to a device-settle wait on a device that becomes settled with so many entries FAILED: FAILED
with the failed count where there is one (DIVERGED), else OK, with the commit count where a COMMIT opened the wait. -/
def settledAnswer (failed : Nat) (count : Option Nat) : OutcomeCode × Payload :=
  if failed ≠ 0 then (.failed, .count failed)
  else match count with
    | some n => (.ok, .count n)
    | none => (.ok, .none)

/-- R34: settled is RUNNING or DIVERGED with every entry APPLIED or FAILED. -/
abbrev Device.Settled (dv : Device) : Prop :=
  (dv.state = .running ∨ dv.state = .diverged) ∧ ∀ e ∈ dv.entries, e.isPending = false ∧ e.isInFlight = false

/-- A port after a happening that takes device d from one record to another: its device-settle waits on the device are
answered if the device has become settled (R46). -/
def PortSide.settling (d : DevNum) (before after : Device) (q : PortSide) : PortSide :=
  if after.Settled ∧ ¬ before.Settled then
    q.answer (toSettleWaits d (settledAnswer (after.entries.filter fun e => decide (e.state = .failed)).length))
  else q

/-- The profile controller with n more in the unapplied count of the transition in flight (R119). -/
def ProfileController.counting (n : Nat) (c : ProfileController) : ProfileController :=
  { c with transition := c.transition.map fun tr => { tr with unapplied := tr.unapplied + n } }

/-- The end of device d's claim in state s, its slots changed by put (R100, R102, R103, R105 and R120): the record is removed;
where the device is deferred it takes the target profile with put as one change (R10, log entry 15), leaves the deferred set,
counts its changed entries if it is FENCED, and the completion test is made. -/
def State.claimEnded (s : State) (d : DevNum) (dv : Device) (put : Entry → Entry) : State :=
  if s.deferred d = true then
    State.completionTest
      { s with
        claims := s.claims.set d none
        devices := s.devices.set d (some (Device.reexamine (s.markerGranted d)
          { dv with
            profile := s.profiles.target
            entries := dv.entries.map (Entry.change put dv.profile s.profiles.target dv.state) }))
        profiles :=
          { s.profiles with
            transition := s.profiles.transition.map fun tr =>
              { tr with
                deferred := tr.deferred.set d false
                unapplied := tr.unapplied +
                  if dv.state = .fenced then
                    (dv.entries.filter fun e => decide
                      ((put e).desired s.profiles.target ≠ e.desired dv.profile ∧
                        (put e).desired s.profiles.target ≠ (put e).desired dv.profile)).length
                  else 0 } } }
  else
    { s with
      claims := s.claims.set d none
      devices := s.devices.set d (some (Device.reexamine (s.markerGranted d)
        { dv with entries := dv.entries.map (Entry.change put dv.profile dv.profile dv.state) })) }

/-- Steps 1 to 4 of R116 with R117, a switch to a profile that is not the target: the waiters of a transition in flight are
answered SUPERSEDED, each unclaimed device takes P whole and each claimed one keeps its profile, and the new record holds the
target, the count of the changed entries of unclaimed FENCED devices and the claimed devices of another profile. -/
def State.switched (s : State) (P : Profile) : State :=
  { s with
    ports :=
      if s.profiles.transition.isSome = true then s.eachPort (PortSide.answer (toWaiters (.superseded, .none))) else s.ports
    devices := PerDevice.ofFn fun d => (s.device d).map fun dv =>
      Device.reexamine (s.markerGranted d)
        (if (s.claim d).isSome = true then dv
        else { dv with profile := P, entries := dv.entries.map (Entry.change id dv.profile P dv.state) })
    profiles :=
      { s.profiles with
        target := P
        transition := some
          { target := P
            unapplied := (devNums.map fun d => match s.device d with
              | some dv =>
                if (s.claim d).isSome = true ∨ dv.state ≠ .fenced then 0
                else (dv.entries.filter fun e => decide (e.desired P ≠ e.desired dv.profile)).length
              | none => 0).sum
            deferred := PerDevice.ofFn fun d => match s.device d with
              | some dv => (s.claim d).isSome && decide (dv.profile ≠ P)
              | none => false } } }

end Sys2Proof.Machine
end

