-- ==== Sys2Proof/Certificates/Slice0/Obligations.lean ====
section
/-! DEFINITION. The statements for the provers. OBLIGATIONS.json lists them, and Sys2Proof/Tests/Slice0.lean holds a witness
for each one that has hypotheses. -/

section

open Sys2Proof Sys2Proof.Machine

/-! ### The step and the take -/

/-- One step with the command c at the front of the queue is c's meaning on the state with the queue's rest. -/
def Obligations.StepRunsTheFrontCommand : Prop :=
  ∀ (c : Instr) (s : State), step { s with pending := c :: s.pending } = exec c s

/-- A step with no command waiting: nothing changes outside READY; in READY one millisecond passes for the probe
timers (R76), a lease (R94) and the debounce (R111), each taken where nothing else runs; the millisecond in which a
lease runs out is the expiry of its claim (R103). That an empty queue stands for the passing of time is the model's
choice (log entry 5), and so are the milliseconds already counted (log entry 21). -/
def Obligations.IdleStepCountsOneMillisecond : Prop :=
  ∀ s : State, s.pending = [] →
    (s.hubState ≠ .ready → step s = .next s) ∧
    (s.hubState = .ready → s.claims = PerDevice.const none → s.profiles.candidate = none →
      ∃ t, step s = .next t ∧ t = { s with devices := t.devices } ∧
        ∀ d, (s.device d = none → t.device d = none) ∧
          ∀ dv, s.device d = some dv →
            (dv.timerRuns = false → t.device d = some dv) ∧
            (dv.timerRuns = true → dv.probeElapsed < 3 →
              t.device d = some { dv with probeElapsed := dv.probeElapsed + 1 }) ∧
            (dv.timerRuns = true → 3 ≤ dv.probeElapsed → 1 < dv.probeRemaining →
              t.device d = some { dv with probeElapsed := 0, probeRemaining := dv.probeRemaining - 1 }) ∧
            (dv.timerRuns = true → 3 ≤ dv.probeElapsed → dv.probeRemaining ≤ 1 →
              ∃ u, exec (.probeTimerExpiry d.val) s = .next u ∧ t.device d = u.device d)) ∧
    (s.hubState = .ready → s.profiles.candidate = none → (∀ d dv, s.device d = some dv → dv.timerRuns = false) →
      ∀ d c, s.claims = (PerDevice.const none).set d (some c) →
        (c.elapsed < 9 →
          step s = .next { s with claims := s.claims.set d (some { c with elapsed := c.elapsed + 1 }) }) ∧
        (9 ≤ c.elapsed → 1 < c.lease →
          step s = .next { s with claims := s.claims.set d (some { c with elapsed := 0, lease := c.lease - 1 }) }) ∧
        (9 ≤ c.elapsed → c.lease ≤ 1 → step s = exec (.claimExpired d.val) s)) ∧
    (s.hubState = .ready → s.claims = PerDevice.const none → (∀ d dv, s.device d = some dv → dv.timerRuns = false) →
      ∀ level, s.profiles.candidate = some level →
        (s.profiles.candidateTime = 0 →
          step s = .next { s with profiles := { s.profiles with candidateTime := 1 } }) ∧
        (s.profiles.candidateTime = 1 → step s = exec .lineChange s))

/-- The state right after reset: in START, its volatile state at the values of the field tables' "Cold start" columns,
and meeting every law. That reset stands in START with the supply up and both banks invalid is the model's choice (log
entry 3). -/
def Obligations.ResetIsAColdStart : Prop :=
  State.reset.hubState = .start ∧ (∀ d, State.reset.device d = none ∧ State.reset.claim d = none) ∧
  (∀ d p, State.reset.lateMark d p = .none) ∧ State.reset.cursor = 0 ∧ State.reset.rotation = .pushWalker ∧
  State.reset.txn = none ∧ State.reset.portRotation = .h ∧
  (∀ p, State.reset.port p =
    { requests := [], outstanding := [], responses := [], manual := [], notices := [], mask := BitVec.allOnes 10
      lost := false, responseEnable := false, noticeEnable := false }) ∧
  State.reset.profiles.source = .requests ∧ State.reset.profiles.target = 0 ∧
  State.reset.profiles.candidate = none ∧ State.reset.profiles.transition = none ∧
  State.reset.portH.phase = .inactive ∧ State.reset.portH.buffer = .empty ∧ State.reset.portH.cursor = .none ∧
  State.reset.portL = { framing := .inactive, latch := none, buffer := .empty, outLatch := 0, outFull := false, cursor := none } ∧
  State.reset.save = { phase := .idle, record := none, lastOutcome := .none, lastSequence := 0 } ∧
  State.reset.pending = [] ∧
  State.reset.queueLaw = true ∧ State.reset.noticeLaw = true ∧ State.reset.lossLaw = true ∧
  State.reset.profileLaw = true ∧ State.reset.appliedLaw = true ∧ State.reset.stagedLaw = true ∧
  State.reset.flightLaw = true ∧ State.reset.markLaw = true ∧ State.reset.failLaw = true ∧ State.reset.idleLaw = true

/-- R127: a port can be taken from while the hub is READY, its queue is not empty and its responses and outstanding
requests are fewer than 8; the engine takes from the port that the rotation names where both can be taken from, and
from the one that can be where one alone can. R126, R127, R153, R167: a take removes the head frame of its port's
queue and the port rotation becomes the other port, other than the one taken from (log entry 23); a frame that waits
COMPLETE in the port's assembly buffer joins the queue in the same happening, and Port L's held frame is then given
room (in UNSYNCED the buffer becomes EMPTY as in IDLE: the model's choice, log entry 25). Nothing else changes. -/
def Obligations.TakeMovesTheQueueAndDelivers : Prop :=
  (∀ (s : State) (p : Port),
    (s.canTake p = true ↔
      s.hubState = .ready ∧ (s.port p).requests ≠ [] ∧ (s.port p).responses.length + (s.port p).outstanding.length < 8) ∧
    (s.nextTake = some p ↔ s.canTake p = true ∧ (p = s.portRotation ∨ s.canTake (otherPort p) = false)) ∧
    otherPort p ≠ p ∧ otherPort (otherPort p) = p) ∧
  ∀ (s : State) (p : Port) (f : Frame) (rest : List Frame), (s.port p).requests = f :: rest →
    ((p = .h → s.portH.buffer.isComplete = false) → (p = .l → s.portL.buffer.isComplete = false) →
      s.dequeue p =
        { s with ports := s.ports.set p { s.port p with requests := rest }, portRotation := otherPort p }) ∧
    (∀ g, p = .h → s.portH.buffer = .complete g →
      s.dequeue .h =
        { s with
          ports := s.ports.set .h { s.port .h with requests := rest ++ [g] }
          portRotation := .l
          portH := { s.portH with buffer := .empty } }) ∧
    (∀ g, p = .l → s.portL.buffer = .complete g →
      s.dequeue .l =
        { s with
          ports := s.ports.set .l { s.port .l with requests := rest ++ [g] }
          portRotation := .h
          portL :=
            if s.portL.framing = .held then { s.portL with buffer := .assembling [] false, framing := .opened }
            else if s.portL.framing = .heldBroken then { s.portL with buffer := .assembling [] true, framing := .discard }
            else { s.portL with buffer := .empty } })

/-! ### What every step keeps -/

/-- R126, R127, R139 and R140, kept by every step from every state that meets them: at most 4 frames in a request
queue and 4 requests outstanding; responses and outstanding requests together at most 8; at most 16 notices in a list,
and never two of one kind for one device. -/
def Obligations.QueuesAndNoticeListsStayBounded : Prop :=
  ∀ s t : State, s.queueLaw = true → s.noticeLaw = true → step s = .next t → t.queueLaw = true ∧ t.noticeLaw = true

/-- R4, R5 and R15, kept by every step: each entry list in strictly ascending order of register, without the check
register and of at most 128 entries, at most 320 entries in all, every parameter in its range, and the same of what
the banks and the save buffer hold. -/
def Obligations.TheImageStaysLawful : Prop :=
  ∀ s t : State, s.imageLaw = true → step s = .next t → t.imageLaw = true

/-- R81, kept by every step: the consecutive-loss count of a device is below its fence limit, unless the device is
FENCED, and then equals it. The law holds with the parameters in range (R15) and the device of a marker transaction
still to be judged LOADING (R36, R60). -/
def Obligations.LossCountsStayBelowTheFenceLimit : Prop :=
  ∀ s t : State, s.lossLaw = true → step s = .next t → t.lossLaw = true

/-- R24, kept by every step: the applied value of an APPLIED entry is present and equals its desired value; an
IN_FLIGHT entry is the one that the push in progress, not marked for discard, carries, so that at most one entry in
the hub is IN_FLIGHT (with the image lawful). -/
def Obligations.EntriesAreAppliedOrInFlightByRule : Prop :=
  ∀ s t : State, s.appliedLaw = true → s.flightLaw = true → step s = .next t → t.appliedLaw = true ∧ t.flightLaw = true

/-- R11 and R117, kept by every step: an entry holds a staged content only while its device is claimed, and a device
whose profile in effect differs from the target is claimed and deferred in the transition in flight. -/
def Obligations.OnlyClaimsHoldStagesAndOtherProfiles : Prop :=
  ∀ s t : State, s.stagedLaw = true → s.profileLaw = true → step s = .next t → t.stagedLaw = true ∧ t.profileLaw = true

/-- R119, kept by every step: an entry that carries a transition mark is PENDING or IN_FLIGHT, and a transition is in
flight. -/
def Obligations.MarkedEntriesAreUnsettled : Prop :=
  ∀ s t : State, s.markLaw = true → step s = .next t → t.markLaw = true

/-- R33, kept by every step: a RUNNING device has no FAILED entry, and a DIVERGED device has one; with the image
lawful (R5), so that no two entries of a device have one register. -/
def Obligations.DivergedMeansAnEntryHasFailed : Prop :=
  ∀ s t : State, s.imageLaw = true → s.failLaw = true → step s = .next t → t.imageLaw = true ∧ t.failLaw = true

/-- R52, R61 and R174, kept by every step: outside READY no transaction is in progress and both ports are INACTIVE; a
frame is on the link only within a transaction. -/
def Obligations.TheLinkIsIdleOutsideReady : Prop :=
  ∀ s t : State, s.idleLaw = true → step s = .next t → t.idleLaw = true

/-! ### Request frames -/

/-- Decoding the frame of a request gives the request back, for every kind, every operand and every tag from 0 to 239:
no bit of a frame is dropped. The frame names its kind, and has the kind's length. -/
def Obligations.FramesDecodeToTheirRequest : Prop :=
  ∀ (r : Request) (tag : Byte), tag.toNat < 240 →
    (r.frame tag).request = some r ∧ (r.frame tag).names r.kind = true ∧ (r.frame tag).tag = tag ∧
      (r.frame tag).bytes.length = r.kind.frameLength ∧ r.kind.zeroFieldSet (r.frame tag).bytes = false

/-- R190 with the lengths and the zero fields of R189's table: a frame that names a kind passes the validation exactly
when it has the kind's length, its tag is not 240 to 254, and no field shown as zero holds a set bit. R128 steps 1 to
4 with the tags of R129: a frame that these steps judge is taken, answered, and has no other effect. -/
def Obligations.FramesAreJudgedInOrder : Prop :=
  (∀ (f : Frame) (k : ReqKind), f.names k = true →
      (f.request.isSome = true ↔
        f.bytes.length = k.frameLength ∧ f.tag.toNat < 240 ∧ k.zeroFieldSet f.bytes = false)) ∧
  (∀ (s : State) (p : Port) (f : Frame), s.nextTake = some p → (s.port p).requests.head? = some f →
      (f.broken = true ∨ f.tagReadable = false →
        exec (.badFrameTake p) s = .next { s.dequeue p with ports := (s.dequeue p).answered p f.tag .badFrame .none }) ∧
      (f.broken = false → f.tagReadable = true → f.kind = none →
        exec (.badFrameTake p) s = .next { s.dequeue p with ports := (s.dequeue p).answered p f.tag .badRequest .none }) ∧
      (∀ k, f.names k = true → f.request = none →
        exec (k.command p) s = .next { s.dequeue p with ports := (s.dequeue p).answered p f.tag .badRequest .none }) ∧
      (∀ k, f.names k = true → f.request.isSome = true → (∃ o ∈ (s.port p).outstanding, o.tag = f.tag) →
        exec (k.command p) s = .next { s.dequeue p with ports := (s.dequeue p).answered p f.tag .badRequest .none }) ∧
      (∀ k, f.names k = true → f.request.isSome = true → (∀ o ∈ (s.port p).outstanding, o.tag ≠ f.tag) →
        k.hOnly = true → p = .l →
        exec (k.command p) s = .next { s.dequeue p with ports := (s.dequeue p).answered p f.tag .notPermitted .none }))

/-- R1: a request that acts on an existing device answers NOT_FOUND where its device operand names an ABSENT device or
is above 5, whatever its other operands, and has no effect. R97: a claim, whoever holds it, bars the definition
requests that change the device's structure (after the owner check of ADD_ENTRY) and the requests DEACTIVATE, RESYNC
and RESET_DEVICE: each is answered HELD and has no effect. -/
def Obligations.NoDeviceIsNotFoundAndAClaimBars : Prop :=
  (∀ (s : State) (p : Port) (r : Request) (tag b : Byte), s.Takes p r tag → r.device? = some b →
      (∀ d dv, ¬ s.Names b d dv) →
      exec (r.kind.command p) s = .next { s.dequeue p with ports := (s.dequeue p).answered p tag .notFound .none }) ∧
  (∀ (s : State) (p : Port) (r : Request) (tag b : Byte) (d : DevNum) (dv : Device), s.Takes p r tag →
      r.device? = some b → s.Names b d dv → (s.claim d).isSome = true →
      (∀ reg o base mask, r = .addEntry b reg o base mask → o = 1 ∨ o = 2 ∨ o = 3) →
      r.kind ∈ [.addEntry, .removeEntry, .removeDevice, .deactivate, .resync, .resetDevice] →
      exec (r.kind.command p) s = .next { s.dequeue p with ports := (s.dequeue p).answered p tag .held .none })

/-! ### Status, notices and formats -/

/-- R134 to R136: READ_STATUS answers the hub form for 255, NOT_FOUND for any other number that names no defined
device, and the device form for a defined device, as the state stands, and changes no state beyond the take. -/
def Obligations.ReadStatusReportsTheStandingState : Prop :=
  ∀ (s : State) (p : Port) (tag b : Byte), s.Takes p (.readStatus b) tag →
    (b = 255 →
      exec (.readStatus p) s = .next
        { s.dequeue p with
          ports := (s.dequeue p).answered p tag .ok
            (.hub
              { source := s.profiles.source
                target := s.profiles.target
                transition := s.profiles.transition.map Transition.target
                saving := decide (s.save.phase = .writing)
                lastOutcome := s.save.lastOutcome
                lastSequence := s.save.lastSequence
                origin := s.origin
                hold := s.inputs.hold
                poolInUse := (devNums.map fun d => match s.device d with
                  | some dv => dv.entries.length
                  | none => 0).sum
                devices := PerDevice.ofFn fun d => (s.device d).map Device.state }) }) ∧
    (b ≠ 255 → (∀ d dv, ¬ s.Names b d dv) →
      exec (.readStatus p) s = .next { s.dequeue p with ports := (s.dequeue p).answered p tag .notFound .none }) ∧
    (∀ d dv, s.Names b d dv →
      exec (.readStatus p) s = .next
        { s.dequeue p with
          ports := (s.dequeue p).answered p tag .ok
            (.device
              { state := dv.state
                phase := dv.phase
                profile := dv.profile
                claim := (s.claim d).map fun c => (c.holder, c.lease)
                losses := dv.losses
                fenceLimit := dv.params.fenceLimit
                probeInterval := dv.params.probeInterval
                probeRemaining := dv.probeRemaining
                pending := (dv.entries.filter fun e => decide (e.state = .pending)).length
                inFlight := (dv.entries.filter Entry.isInFlight).length
                applied := (dv.entries.filter fun e => decide (e.state = .applied)).length
                failed := (dv.entries.filter fun e => decide (e.state = .failed)).length }) })

/-- R142: READ_NOTICES removes up to 8 of the oldest notices and carries them with the more-remain flag and the lost
mark, which it clears; the other port's list and everything else stay. R143 and R144: SET_NOTICE_MASK stores its
operand with STARTED set, SET_ATTENTION both enables; each answers OK, with the attention output judged again on that
answer (R145). -/
def Obligations.NoticeRequestsShapeAndDrain : Prop :=
  (∀ (s : State) (p : Port) (tag : Byte), s.Takes p .readNotices tag →
      ∃ t, exec (.readNotices p) s = .next t ∧ t = { s.dequeue p with ports := t.ports } ∧
        t.port (otherPort p) = (s.dequeue p).port (otherPort p) ∧
        ∃ removed, (s.port p).notices = removed ++ (t.port p).notices ∧
          removed.length = min 8 (s.port p).notices.length ∧
          t.port p =
            { (s.dequeue p).port p with
              notices := (t.port p).notices
              lost := false
              responses := (s.port p).responses ++
                [⟨tag, .ok, .notices removed (!(t.port p).notices.isEmpty) (s.port p).lost⟩] }) ∧
  (∀ (s : State) (p : Port) (tag : Byte),
      (∀ mask, s.Takes p (.setNoticeMask mask) tag →
        exec (.setNoticeMask p) s = .next
          { s.dequeue p with
            ports := s.dequeue p |>.ports.set p
              { (s.dequeue p).port p with
                mask := mask ||| 1
                responses := (s.port p).responses ++ [⟨tag, .ok, .none⟩] } }) ∧
      (∀ x y, s.Takes p (.setAttention x y) tag →
        exec (.setAttention p) s = .next
          { s.dequeue p with
            ports := s.dequeue p |>.ports.set p
              { (s.dequeue p).port p with
                responseEnable := x
                noticeEnable := y
                responses := (s.port p).responses ++ [⟨tag, .ok, .none⟩] } } ∧
        ∀ t, exec (.setAttention p) s = .next t →
          t.attention p = (x || (y && !(s.port p).notices.isEmpty))))

/-- R138 to R140: a notice whose kind the mask excludes leaves no trace (STARTED is never excluded); one of the kind
and device of a notice in the list takes that notice's place with its own detail; else it joins the tail of a list of
fewer than 16, and is turned away from a list of 16 with the lost mark set. -/
def Obligations.NoticesCoalesceOrJoinOrAreLost : Prop :=
  ∀ (q : PortSide) (n : Notice),
    (maskAdmits q.mask n.kind = true ↔ n.kind = .started ∨ q.mask.getLsbD (n.kind.code - 1) = true) ∧
    (maskAdmits q.mask n.kind = false → q.post n = q) ∧
    (maskAdmits q.mask n.kind = true →
      ((∃ m ∈ q.notices, m.kind = n.kind ∧ m.device = n.device) →
        q.post n = { q with
          notices := q.notices.map fun m => if m.kind = n.kind ∧ m.device = n.device then n else m }) ∧
      ((∀ m ∈ q.notices, ¬ (m.kind = n.kind ∧ m.device = n.device)) →
        (q.notices.length < 16 → q.post n = { q with notices := q.notices ++ [n] }) ∧
        (16 ≤ q.notices.length → q.post n = { q with lost := true })))

/-- R191: a response is its length byte, which is 2 plus the payload's length, the tag, the outcome code of R191's
table and the payload; a value is two bytes and a sequence four, most significant first. R192: the record of each of
the ten notice kinds, and the summary byte before the records. R193: the 28 bytes of an entry's view. R194: the 18
bytes of the hub form and the 13 of the device form. A response with at most 8 notices never exceeds 36 bytes, and its
length byte holds its length exactly. -/
def Obligations.ResponsesHaveTheirLength : Prop :=
  (∀ r : Response,
    r.bytes = byteOf r.length :: r.tag :: byteOf r.outcome.code :: r.payload.bytes ∧
    r.length = 2 + r.payload.bytes.length ∧
    (∀ ns more lost, r.payload = .notices ns more lost → r.bytes.length = 4 + 4 * ns.length) ∧
    (∀ view, r.payload = .entry view → r.bytes.length = 31) ∧
    (∀ form, r.payload = .hub form → r.bytes.length = 21) ∧
    (∀ form, r.payload = .device form → r.bytes.length = 16) ∧
    ((∀ ns more lost, r.payload = .notices ns more lost → ns.length ≤ 8) →
      r.bytes.length ≤ 36 ∧ r.bytes.head? = some (byteOf (r.bytes.length - 1)) ∧
        ((byteOf (r.bytes.length - 1)).toNat = r.bytes.length - 1))) ∧
  [OutcomeCode.ok, .staged, .superseded, .failed, .fenced, .notActive, .denied, .held, .busy, .notFound, .duplicate, .noSpace,
    .notPermitted, .badRequest, .badFrame, .expired, .broken, .aborted, .managed, .wrongState].map OutcomeCode.code =
      List.range 20 ∧
  (∀ v : Value, (Payload.value v).bytes = [v.extractLsb' 8 8, v.extractLsb' 0 8]) ∧
  (∀ n : Nat,
    (Payload.count n).bytes = [BitVec.ofNat 8 n] ∧
    (Payload.unapplied n).bytes = [BitVec.ofNat 8 (n / 256), BitVec.ofNat 8 n] ∧
    (Payload.sequence n).bytes =
      [BitVec.ofNat 8 (n / 256 / 256 / 256), BitVec.ofNat 8 (n / 256 / 256), BitVec.ofNat 8 (n / 256), BitVec.ofNat 8 n]) ∧
  Payload.none.bytes = [] ∧
  (∀ (o : Origin) (n : Nat) (ok : Bool) (P : Profile) (d : DevNum) (reg : Register),
    (Notice.started o).record = [1, 255, 0, match o with
      | .noImage => (0 : Byte)
      | .bankA => (1 : Byte)
      | .bankB => (2 : Byte)] ∧
    (Notice.deviceLost d).record = [2, BitVec.ofNat 8 d.val, 0, 0] ∧
    (n ≤ 128 → (Notice.loadDone d n).record = [3, BitVec.ofNat 8 d.val, 0, BitVec.ofNat 8 n]) ∧
    (Notice.entryFailed d reg).record = [4, BitVec.ofNat 8 d.val, 0, reg] ∧
    (Notice.deviceFenced d).record = [5, BitVec.ofNat 8 d.val, 0, 0] ∧
    (Notice.claimExpired d).record = [6, BitVec.ofNat 8 d.val, 0, 0] ∧
    (Notice.claimBroken d).record = [7, BitVec.ofNat 8 d.val, 0, 0] ∧
    (n ≤ 320 → (Notice.profileSettled P n).record =
      [8, 255, BitVec.ofNat 8 (64 * P.val + (if n = 0 then 0 else 32) + n / 256), BitVec.ofNat 8 n]) ∧
    (Notice.saveDone ok n).record =
      [9, 255, BitVec.ofNat 8 ((if ok then 0 else 128) + n / 256 % 128), BitVec.ofNat 8 n] ∧
    Notice.supplyRestored.record = [10, 255, 0, 0]) ∧
  (∀ (ns : List Notice) (more lost : Bool), ns.length ≤ 8 →
    (Payload.notices ns more lost).bytes =
      BitVec.ofNat 8 (ns.length + (if lost then 64 else 0) + (if more then 128 else 0)) ::
        (ns.map Notice.record).flatten) ∧
  (∀ (view : EntryView) (two : Value → List Byte) (clear : Option SlotContent → Bool)
      (content : Option SlotContent → Option Value),
    (∀ v, two v = [v.extractLsb' 8 8, v.extractLsb' 0 8]) →
    (∀ c, clear c = decide (c = some .clear)) →
    (∀ c, content c = match c with
      | some (.value v) => some v
      | some .clear => none
      | none => none) →
    (Payload.entry view).bytes =
      [view.register,
        match view.owner with
          | .h => (1 : Byte)
          | .l => (2 : Byte)
          | .any => (3 : Byte),
        match view.state with
          | .pending => (0 : Byte)
          | .inFlight => (1 : Byte)
          | .applied => (2 : Byte)
          | .failed => (3 : Byte),
        BitVec.ofNat 8 view.attempts,
        byteOfBits false false false view.stagedBase.isSome view.applied.isSome view.override3.isSome
          view.override2.isSome view.override1.isSome,
        byteOfBits false false (clear view.staged3) (content view.staged3).isSome (clear view.staged2)
          (content view.staged2).isSome (clear view.staged1) (content view.staged1).isSome] ++
      two view.verifyMask ++ two view.base ++ two (view.override1.getD 0) ++ two (view.override2.getD 0) ++
      two (view.override3.getD 0) ++ two view.desired ++ two (view.applied.getD 0) ++ two (view.stagedBase.getD 0) ++
      two ((content view.staged1).getD 0) ++ two ((content view.staged2).getD 0) ++ two ((content view.staged3).getD 0)) ∧
  (∀ form : HubForm,
    (Payload.hub form).bytes =
      [1,
        byteOfBits false false false false form.hold form.saving form.transition.isSome (decide (form.source = .lines)),
        BitVec.ofNat 8 form.target.val,
        match form.transition with
          | some P => BitVec.ofNat 8 P.val
          | none => (0 : Byte),
        match form.lastOutcome with
          | .none => (0 : Byte)
          | .ok => (1 : Byte)
          | .failed => (2 : Byte)] ++
      (Payload.sequence form.lastSequence).bytes ++
      [match form.origin with
          | .noImage => (0 : Byte)
          | .bankA => (1 : Byte)
          | .bankB => (2 : Byte),
        BitVec.ofNat 8 (form.poolInUse / 256), BitVec.ofNat 8 form.poolInUse] ++
      [form.devices.d0, form.devices.d1, form.devices.d2, form.devices.d3, form.devices.d4, form.devices.d5].map fun x =>
        match x with
          | none => (0 : Byte)
          | some .dormant => (1 : Byte)
          | some .loading => (2 : Byte)
          | some .running => (3 : Byte)
          | some .diverged => (4 : Byte)
          | some .suspect => (5 : Byte)
          | some .fenced => (6 : Byte)) ∧
  (∀ form : DeviceForm,
    (Payload.device form).bytes =
      [match form.state with
          | .dormant => (1 : Byte)
          | .loading => (2 : Byte)
          | .running => (3 : Byte)
          | .diverged => (4 : Byte)
          | .suspect => (5 : Byte)
          | .fenced => (6 : Byte),
        match form.phase with
          | .entries => (0 : Byte)
          | .marker => (1 : Byte)
          | .confirmed => (2 : Byte),
        BitVec.ofNat 8 form.profile.val,
        match form.claim with
          | none => (0 : Byte)
          | some (.h, _) => (1 : Byte)
          | some (.l, _) => (2 : Byte),
        match form.claim with
          | none => (0 : Byte)
          | some (_, lease) => BitVec.ofNat 8 lease,
        BitVec.ofNat 8 form.losses, BitVec.ofNat 8 form.fenceLimit, BitVec.ofNat 8 form.probeInterval,
        BitVec.ofNat 8 form.probeRemaining, BitVec.ofNat 8 form.pending, BitVec.ofNat 8 form.inFlight,
        BitVec.ofNat 8 form.applied, BitVec.ofNat 8 form.failed])

/-! ### The configuration image -/

/-- R15: DEFINE_DEVICE refuses an operand out of range, then a number already defined; otherwise the record is created
DORMANT with its working fields as the rule lists them, and both late marks become none. R20: REMOVE_DEVICE of an
unclaimed DORMANT device with no manual transfer makes the record ABSENT, which returns its entries to the pool, and
clears both late marks; in another state it answers WRONG_STATE, and with a manual transfer for the device queued or
on the link BUSY. -/
def Obligations.DeviceRecordsAreDefinedAndRemoved : Prop :=
  (∀ (s : State) (p : Port) (tag b c : Byte) (m : Value) (sp vp rl pi fl : Byte),
      s.Takes p (.defineDevice b c m sp vp rl pi fl) tag →
      (¬ (b.toNat ≤ 5 ∧ sp.toNat ≤ 3 ∧ vp.toNat ≤ 1 ∧ rl.toNat ≤ 7 ∧ pi.toNat ≤ 250 ∧ 1 ≤ fl.toNat ∧ fl.toNat ≤ 7) →
        exec (.defineDevice p) s = .next { s.dequeue p with ports := (s.dequeue p).answered p tag .badRequest .none }) ∧
      (sp.toNat ≤ 3 → vp.toNat ≤ 1 → rl.toNat ≤ 7 → pi.toNat ≤ 250 → 1 ≤ fl.toNat → fl.toNat ≤ 7 →
        ∀ d : DevNum, b.toNat = d.val →
        ((s.device d).isSome = true →
          exec (.defineDevice p) s = .next { s.dequeue p with ports := (s.dequeue p).answered p tag .duplicate .none }) ∧
        (s.device d = none →
          exec (.defineDevice p) s = .next
            { s.dequeue p with
              devices := s.devices.set d (some
                { params :=
                    { checkRegister := c, marker := m, speedClass := sp.toNat
                      verifyPolicy := if vp = 0 then .none else .readback, retryLimit := rl.toNat
                      probeInterval := pi.toNat, fenceLimit := fl.toNat }
                  state := .dormant, phase := .entries, probeRemaining := pi.toNat, probeElapsed := 0, probeDue := false
                  losses := 0, profile := s.profiles.target, entries := [] })
              late := s.late.set d ⟨.none, .none⟩
              ports := (s.dequeue p).answered p tag .ok .none }))) ∧
  (∀ (s : State) (p : Port) (tag b : Byte) (d : DevNum) (dv : Device), s.Takes p (.removeDevice b) tag →
      s.Names b d dv → s.claim d = none →
      (dv.state ≠ .dormant →
        exec (.removeDevice p) s = .next { s.dequeue p with ports := (s.dequeue p).answered p tag .wrongState .none }) ∧
      (dv.state = .dormant → (∃ q, ∃ x ∈ (s.port q).manual, x.device = d) →
        exec (.removeDevice p) s = .next { s.dequeue p with ports := (s.dequeue p).answered p tag .busy .none }) ∧
      (dv.state = .dormant → (∃ t, s.txn = some t ∧ t.device = d ∧ (t.kind = .manualRead ∨ t.kind = .manualWrite)) →
        exec (.removeDevice p) s = .next { s.dequeue p with ports := (s.dequeue p).answered p tag .busy .none }) ∧
      (dv.state = .dormant → (∀ q, ∀ x ∈ (s.port q).manual, x.device ≠ d) →
        (∀ t, s.txn = some t → t.device = d → t.kind ≠ .manualRead ∧ t.kind ≠ .manualWrite) →
        ∃ t, exec (.removeDevice p) s = .next t ∧
          t = { s.dequeue p with
                devices := s.devices.set d none
                late := s.late.set d ⟨.none, .none⟩
                ports := (s.dequeue p).answered p tag .ok .none } ∧
          t.poolInUse + dv.entries.length = s.poolInUse))

/-- R16: ADD_ENTRY's refusals in their order, and the record it inserts: the list gains exactly the new entry and
stays in strictly ascending order of register. A device LOADING in phase MARKER, its marker transaction not granted,
returns to phase ENTRIES (R36); the re-examination of R33 and R36 otherwise leaves the device as
ReexaminationFollowsTheEntries says. -/
def Obligations.AddEntryInsertsInOrder : Prop :=
  ∀ (s : State) (p : Port) (tag b r o : Byte) (base mask : Value) (d : DevNum) (dv : Device),
    s.Takes p (.addEntry b r o base mask) tag → s.Names b d dv →
    (¬ (o = 1 ∨ o = 2 ∨ o = 3) →
      exec (.addEntry p) s = .next { s.dequeue p with ports := (s.dequeue p).answered p tag .badRequest .none }) ∧
    (o = 1 ∨ o = 2 ∨ o = 3 → s.claim d = none →
      ((∃ e ∈ dv.entries, e.register = r) ∨ r = dv.params.checkRegister →
        exec (.addEntry p) s = .next { s.dequeue p with ports := (s.dequeue p).answered p tag .duplicate .none }) ∧
      ((∀ e ∈ dv.entries, e.register ≠ r) → r ≠ dv.params.checkRegister →
        (128 ≤ dv.entries.length ∨ 320 ≤ s.poolInUse →
          exec (.addEntry p) s = .next { s.dequeue p with ports := (s.dequeue p).answered p tag .noSpace .none }) ∧
        (dv.entries.length < 128 → s.poolInUse < 320 →
          ∃ es, exec (.addEntry p) s = .next
              { s.dequeue p with
                devices := s.devices.set d (some (Device.reexamine (s.markerGranted d) { dv with entries := es }))
                ports := (s.dequeue p).answered p tag .ok .none } ∧
            es.length = dv.entries.length + 1 ∧
            (∀ e, e ∈ es ↔ e ∈ dv.entries ∨ e =
              { register := r, owner := if o = 1 then .h else if o = 2 then .l else .any, verifyMask := mask, base := base
                override1 := none, override2 := none, override3 := none, state := .pending, applied := none
                attempts := 0, stagedBase := none, staged1 := none, staged2 := none, staged3 := none, mark := false }) ∧
            (ascending (dv.entries.map Entry.register) = true → ascending (es.map Entry.register) = true))))

/-- R17 and R18: REMOVE_ENTRY of an unclaimed device answers NOT_FOUND for a register that is no entry and BUSY for an
IN_FLIGHT entry. Otherwise the entry leaves the list, every entry wait on it is answered ABORTED, the device is
re-examined without it, and where that leaves it settled its device-settle waits are answered (R46); a mark of the
entry counts as unapplied and the completion test is made (R119; SelectProfileSwitchesEveryDevice says what the test
does). The request's own OK comes last, and nothing else changes. -/
def Obligations.RemoveEntryAbortsItsWaits : Prop :=
  ∀ (s : State) (p : Port) (tag b r : Byte) (d : DevNum) (dv : Device),
    s.Takes p (.removeEntry b r) tag → s.Names b d dv → s.claim d = none →
    ((∀ e ∈ dv.entries, e.register ≠ r) →
      exec (.removeEntry p) s = .next { s.dequeue p with ports := (s.dequeue p).answered p tag .notFound .none }) ∧
    (∀ e, findEntry r dv.entries = some e →
      (e.isInFlight = true →
        exec (.removeEntry p) s = .next { s.dequeue p with ports := (s.dequeue p).answered p tag .busy .none }) ∧
      (e.isInFlight = false → ∀ (after : Device) (u v : State),
        after = Device.reexamine (s.markerGranted d)
          { dv with entries := dv.entries.filter (fun x => decide (x.register ≠ r)) } →
        u = { s.dequeue p with
              devices := s.devices.set d (some after)
              profiles := if e.mark = true then s.profiles.counting 1 else s.profiles
              ports := (s.dequeue p).eachPort fun q =>
                (q.answer (toEntryWaits d r fun _ => (.aborted, .none))).settling d dv after } →
        v = (if e.mark = true then u.completionTest else u) →
        exec (.removeEntry p) s = .next { v with ports := v.answered p tag .ok .none }))

/-- R19: SET_ENTRY_ATTR sets the owner and the verify mask of the entry, in every device state and claimed or not, and
leaves everything else as it is. -/
def Obligations.SetEntryAttrSetsOwnerAndMask : Prop :=
  ∀ (s : State) (p : Port) (tag b r o : Byte) (mask : Value) (d : DevNum) (dv : Device),
    s.Takes p (.setEntryAttr b r o mask) tag → s.Names b d dv →
    (¬ (o = 1 ∨ o = 2 ∨ o = 3) →
      exec (.setEntryAttr p) s = .next { s.dequeue p with ports := (s.dequeue p).answered p tag .badRequest .none }) ∧
    (o = 1 ∨ o = 2 ∨ o = 3 → (∀ e ∈ dv.entries, e.register ≠ r) →
      exec (.setEntryAttr p) s = .next { s.dequeue p with ports := (s.dequeue p).answered p tag .notFound .none }) ∧
    (o = 1 ∨ o = 2 ∨ o = 3 → (∃ e ∈ dv.entries, e.register = r) →
      exec (.setEntryAttr p) s = .next
        { s.dequeue p with
          devices := s.devices.set d (some
            { dv with
              entries := dv.entries.map fun e =>
                if e.register = r then
                  { e with owner := if o = 1 then .h else if o = 2 then .l else .any, verifyMask := mask }
                else e })
          ports := (s.dequeue p).answered p tag .ok .none })

/-- R21 and R22: READ_ENTRY finds the entry by exact lookup, or, with the next flag, the entry with the lowest
register at or above the operand; it answers NOT_FOUND where there is none, and otherwise the entry's view as it
stands, and changes no state beyond the take. -/
def Obligations.ReadEntryReturnsTheView : Prop :=
  ∀ (s : State) (p : Port) (tag b r : Byte) (onward : Bool) (d : DevNum) (dv : Device),
    s.Takes p (.readEntry b r onward) tag → s.Names b d dv → ascending (dv.entries.map Entry.register) = true →
    ((∀ e ∈ dv.entries, if onward = true then e.register.toNat < r.toNat else e.register ≠ r) →
      exec (.readEntry p) s = .next { s.dequeue p with ports := (s.dequeue p).answered p tag .notFound .none }) ∧
    (∀ e ∈ dv.entries,
      (if onward = true then
        r.toNat ≤ e.register.toNat ∧ ∀ x ∈ dv.entries, r.toNat ≤ x.register.toNat → e.register.toNat ≤ x.register.toNat
      else e.register = r) →
      exec (.readEntry p) s = .next
        { s.dequeue p with
          ports := (s.dequeue p).answered p tag .ok
            (.entry
              { register := e.register, owner := e.owner
                state := match e.state with
                  | .pending => .pending
                  | .inFlight _ _ => .inFlight
                  | .applied => .applied
                  | .failed => .failed
                attempts := e.attempts, verifyMask := e.verifyMask, base := e.base, override1 := e.override1
                override2 := e.override2, override3 := e.override3, desired := e.desired dv.profile
                applied := e.applied, stagedBase := e.stagedBase, staged1 := e.staged1, staged2 := e.staged2
                staged3 := e.staged3 }) })

/-! ### Keeping devices in step -/

/-- R9 (with R109), R10 and R26: the desired value is the override of the profile in effect where it is present and
the base value otherwise; a committed change that leaves it equal leaves the entry's state, attempts and mark, and one
that moves it moves the state by R26's table. The mark is set exactly where the change of profile moves the value on a
device in a managed state (R117, R120). That a change of slots and of profile in one happening is compared whole, so
that an entry moved and moved back is left as it was and unmarked, is the model's deduction (log entry 15). -/
def Obligations.CommittedChangesMoveTheEntryState : Prop :=
  ∀ (e : Entry) (f : Entry → Entry) (p p' : Profile) (st : DevState),
    (∀ x, (f x).state = x.state ∧ (f x).applied = x.applied ∧ (f x).attempts = x.attempts ∧ (f x).mark = x.mark) →
    e.desired 0 = e.base ∧ e.desired 1 = e.override1.getD e.base ∧ e.desired 2 = e.override2.getD e.base ∧
    e.desired 3 = e.override3.getD e.base ∧
    ((f e).desired p' = e.desired p → e.change f p p' st = f e) ∧
    ((f e).desired p' ≠ e.desired p →
      (e.state = .applied → (e.change f p p' st).state = .pending ∧ (e.change f p p' st).attempts = e.attempts) ∧
      (e.state = .failed → (e.change f p p' st).state = .pending ∧ (e.change f p p' st).attempts = 0) ∧
      (e.state = .pending → (e.change f p p' st).state = .pending ∧ (e.change f p p' st).attempts = 0) ∧
      (∀ ph v, e.state = .inFlight ph v →
        (e.change f p p' st).state = .inFlight ph v ∧ (e.change f p p' st).attempts = e.attempts) ∧
      (e.change f p p' st).applied = e.applied ∧
      (∀ q, (e.change f p p' st).desired q = (f e).desired q) ∧
      ((e.change f p p' st).mark = true ↔ e.mark = true ∨
        ((f e).desired p' ≠ (f e).desired p ∧
          (st = .loading ∨ st = .running ∨ st = .diverged ∨ st = .suspect))))

/-- R33 and R36, as the coherence engine re-examines a device: RUNNING and DIVERGED follow whether an entry is FAILED;
in LOADING the phase becomes MARKER when no entry is PENDING or IN_FLIGHT, and returns to ENTRIES when an entry is
PENDING before the marker transaction has been granted. Nothing but the device state and the load phase changes. -/
def Obligations.ReexaminationFollowsTheEntries : Prop :=
  ∀ (granted : Bool) (dv : Device),
    Device.reexamine granted dv =
      { dv with
        state :=
          if dv.state = .running ∨ dv.state = .diverged then
            if ∃ e ∈ dv.entries, e.state = .failed then .diverged else .running
          else dv.state
        phase :=
          if dv.state = .loading then
            if dv.phase = .entries ∧ ∀ e ∈ dv.entries, e.isPending = false ∧ e.isInFlight = false then .marker
            else if dv.phase = .marker ∧ granted = false ∧ ∃ e ∈ dv.entries, e.state = .pending then .entries
            else dv.phase
          else dv.phase }

/-- R41 checks 1 to 5 with R12 and R42: WRITE's refusals in their order, and the staged write of a claim holder, which
fills the slot it names and touches nothing else. -/
def Obligations.WriteIsRefusedOrStaged : Prop :=
  ∀ (s : State) (p : Port) (tag b r sl : Byte) (wait clear : Bool) (v : Value) (d : DevNum) (dv : Device),
    s.Takes p (.write b r sl wait clear v) tag → s.Names b d dv →
    ((∀ e ∈ dv.entries, e.register ≠ r) →
      exec (.write p) s = .next { s.dequeue p with ports := (s.dequeue p).answered p tag .notFound .none }) ∧
    (∀ e, findEntry r dv.entries = some e →
      (4 ≤ sl.toNat ∨ (clear = true ∧ sl = 0) →
        exec (.write p) s = .next { s.dequeue p with ports := (s.dequeue p).answered p tag .badRequest .none }) ∧
      (sl.toNat < 4 → ¬ (clear = true ∧ sl = 0) →
        (e.owner = .h ∧ p = .l ∨ e.owner = .l ∧ p = .h →
          exec (.write p) s = .next { s.dequeue p with ports := (s.dequeue p).answered p tag .denied .none }) ∧
        (¬ (e.owner = .h ∧ p = .l ∨ e.owner = .l ∧ p = .h) → ∀ c, s.claim d = some c →
          (c.holder ≠ p →
            exec (.write p) s = .next { s.dequeue p with ports := (s.dequeue p).answered p tag .held .none }) ∧
          (c.holder = p →
            exec (.write p) s = .next
              { s.dequeue p with
                devices := s.devices.set d (some
                  { dv with
                    entries := dv.entries.map fun x =>
                      if x.register = r then
                        { x with
                          stagedBase := if sl = 0 then some v else x.stagedBase
                          staged1 := if sl = 1 then some (if clear then .clear else .value v) else x.staged1
                          staged2 := if sl = 2 then some (if clear then .clear else .value v) else x.staged2
                          staged3 := if sl = 3 then some (if clear then .clear else .value v) else x.staged3 }
                      else x })
                ports := (s.dequeue p).answered p tag .staged .none }))))

/-- R43 with check 6 of R41: a WRITE that passes its checks on an unclaimed device stores the value, or clears the
override, in the named slot as one committed change (CommittedChangesMoveTheEntryState), after which the device is re-
examined; it is answered by R43's table, becomes an entry wait expecting the new desired value, or is refused BUSY
with nothing committed. -/
def Obligations.CommittedWriteStoresAndAnswers : Prop :=
  ∀ (s : State) (p : Port) (tag b r : Byte) (sl : Fin 4) (wait clear : Bool) (v : Value) (d : DevNum) (dv : Device)
    (e : Entry) (put : Entry → Entry) (u : State),
    s.Takes p (.write b r (BitVec.ofNat 8 sl.val) wait clear v) tag → s.Names b d dv →
    findEntry r dv.entries = some e → ¬ (clear = true ∧ sl = 0) →
    ¬ (e.owner = .h ∧ p = .l ∨ e.owner = .l ∧ p = .h) → s.claim d = none →
    (∀ x, put x =
      { x with
        base := if sl = 0 then v else x.base
        override1 := if sl = 1 then (if clear then none else some v) else x.override1
        override2 := if sl = 2 then (if clear then none else some v) else x.override2
        override3 := if sl = 3 then (if clear then none else some v) else x.override3 }) →
    u = { s.dequeue p with
          devices := s.devices.set d (some (Device.reexamine (s.markerGranted d)
            { dv with
              entries := dv.entries.map fun x =>
                if x.register = r then x.change put dv.profile dv.profile dv.state else x })) } →
    (wait = false → exec (.write p) s = .next { u with ports := u.answered p tag .ok .none }) ∧
    (wait = true →
      (dv.state = .dormant → exec (.write p) s = .next { u with ports := u.answered p tag .notActive .none }) ∧
      (dv.state = .fenced → exec (.write p) s = .next { u with ports := u.answered p tag .fenced .none }) ∧
      (dv.state ≠ .dormant → dv.state ≠ .fenced →
        ((put e).desired dv.profile = e.desired dv.profile → e.state = .applied → ∀ a, e.applied = some a →
          exec (.write p) s = .next { u with ports := u.answered p tag .ok (.value a) }) ∧
        ((put e).desired dv.profile = e.desired dv.profile → e.state = .failed →
          exec (.write p) s = .next { u with ports := u.answered p tag .failed .none }) ∧
        ((put e).desired dv.profile ≠ e.desired dv.profile ∨ (e.state ≠ .applied ∧ e.state ≠ .failed) →
          (s.full p →
            exec (.write p) s = .next { s.dequeue p with ports := (s.dequeue p).answered p tag .busy .none }) ∧
          (¬ s.full p →
            exec (.write p) s = .next
              { u with
                ports := u.deferredTo p
                  { tag := tag, kind := .write, wait := .entry d r ((put e).desired dv.profile) } }))))

/-- R35, R36 and R77: as a load begins the device becomes LOADING in phase ENTRIES (MARKER with no entries), every
entry PENDING with applied value absent and attempts 0 and its slots and mark kept; the probe timer is reloaded from
DORMANT and FENCED and where a due probe is dropped, and runs on otherwise. The loss count, the parameters and the
profile in effect stay. -/
def Obligations.LoadsBeginWithEveryEntryPending : Prop :=
  ∀ dv : Device, (dv.beginLoad).state = .loading ∧
    (dv.beginLoad).phase = (if dv.entries = [] then .marker else .entries) ∧
    (dv.beginLoad).entries = dv.entries.map (fun e => { e with state := .pending, applied := none, attempts := 0 }) ∧
    (dv.beginLoad).params = dv.params ∧ (dv.beginLoad).losses = dv.losses ∧ (dv.beginLoad).profile = dv.profile ∧
    (dv.beginLoad).probeDue = false ∧
    (dv.state = .dormant ∨ dv.state = .fenced →
      (dv.beginLoad).probeRemaining = dv.params.probeInterval ∧ (dv.beginLoad).probeElapsed = 0) ∧
    (dv.state = .running ∨ dv.state = .diverged ∨ dv.state = .suspect →
      if dv.probeDue = true then
        (dv.beginLoad).probeRemaining = dv.params.probeInterval ∧ (dv.beginLoad).probeElapsed = 0
      else
        (dv.beginLoad).probeRemaining = dv.probeRemaining ∧ (dv.beginLoad).probeElapsed = dv.probeElapsed) ∧
    (dv.state = .loading →
      (dv.beginLoad).probeRemaining = dv.probeRemaining ∧ (dv.beginLoad).probeElapsed = dv.probeElapsed)

/-- R47, R50 and R87 with R46 and R60: ACTIVATE, RESYNC and RESET_DEVICE begin a load
(LoadsBeginWithEveryEntryPending) in the device states that each admits, mark a push or probe transaction of the
device for discard (RESYNC, RESET_DEVICE), clear the loss count (RESET_DEVICE), and are answered OK or open a device-
settle wait; they are refused in the other states, and BUSY with the wait flag and 4 requests outstanding. -/
def Obligations.ActivateResyncAndResetBeginALoad : Prop :=
  ∀ (s : State) (p : Port) (tag b : Byte) (wait : Bool) (d : DevNum) (dv : Device), s.Names b d dv →
    (s.Takes p (.activate b wait) tag →
      (dv.state ≠ .dormant →
        exec (.activate p) s = .next { s.dequeue p with ports := (s.dequeue p).answered p tag .wrongState .none }) ∧
      (dv.state = .dormant → wait = true → s.full p →
        exec (.activate p) s = .next { s.dequeue p with ports := (s.dequeue p).answered p tag .busy .none }) ∧
      (dv.state = .dormant → ¬ (wait = true ∧ s.full p) →
        exec (.activate p) s = .next
          { s.dequeue p with
            devices := s.devices.set d (some dv.beginLoad)
            ports :=
              if wait then (s.dequeue p).deferredTo p { tag := tag, kind := .activate, wait := .settle d none }
              else (s.dequeue p).answered p tag .ok .none })) ∧
    (s.Takes p (.resync b wait) tag → s.claim d = none →
      (dv.state = .fenced →
        exec (.resync p) s = .next { s.dequeue p with ports := (s.dequeue p).answered p tag .fenced .none }) ∧
      (dv.state = .dormant ∨ dv.state = .loading →
        exec (.resync p) s = .next { s.dequeue p with ports := (s.dequeue p).answered p tag .wrongState .none }) ∧
      (dv.state = .running ∨ dv.state = .diverged ∨ dv.state = .suspect →
        (wait = true → s.full p →
          exec (.resync p) s = .next { s.dequeue p with ports := (s.dequeue p).answered p tag .busy .none }) ∧
        (¬ (wait = true ∧ s.full p) →
          exec (.resync p) s = .next
            { s.dequeue p with
              devices := s.devices.set d (some dv.beginLoad)
              txn := s.txn.map fun t =>
                if t.device = d ∧ (t.kind = .push ∨ t.kind = .probe) then { t with discard := true } else t
              ports :=
                if wait then (s.dequeue p).deferredTo p { tag := tag, kind := .resync, wait := .settle d none }
                else (s.dequeue p).answered p tag .ok .none }))) ∧
    (s.Takes p (.resetDevice b wait) tag → s.claim d = none →
      (dv.state ≠ .fenced → dv.state ≠ .diverged →
        exec (.resetDevice p) s = .next { s.dequeue p with ports := (s.dequeue p).answered p tag .wrongState .none }) ∧
      (dv.state = .fenced ∨ dv.state = .diverged →
        (wait = true → s.full p →
          exec (.resetDevice p) s = .next { s.dequeue p with ports := (s.dequeue p).answered p tag .busy .none }) ∧
        (¬ (wait = true ∧ s.full p) →
          exec (.resetDevice p) s = .next
            { s.dequeue p with
              devices := s.devices.set d (some { dv.beginLoad with losses := 0 })
              txn := s.txn.map fun t =>
                if t.device = d ∧ (t.kind = .push ∨ t.kind = .probe) then { t with discard := true } else t
              ports :=
                if wait then (s.dequeue p).deferredTo p { tag := tag, kind := .resetDevice, wait := .settle d none }
                else (s.dequeue p).answered p tag .ok .none })))

/-- R48, R49 and R60: DEACTIVATE of an unclaimed device that is not DORMANT makes it DORMANT with every entry PENDING
and its counts cleared, marks its push, marker or probe transaction for discard, answers first its entry waits and
then its device-settle waits ABORTED, clears its transition marks into the unapplied count, which calls for the
completion test where there was a mark (R119, R121; SelectProfileSwitchesEveryDevice says what the test does), and
answers OK last. Nothing else changes. -/
def Obligations.DeactivateEndsManagement : Prop :=
  ∀ (s : State) (p : Port) (tag b : Byte) (d : DevNum) (dv : Device), s.Takes p (.deactivate b) tag → s.Names b d dv →
    s.claim d = none →
    (dv.state = .dormant →
      exec (.deactivate p) s = .next { s.dequeue p with ports := (s.dequeue p).answered p tag .wrongState .none }) ∧
    (dv.state ≠ .dormant → ∀ (marks : Nat) (u v : State),
      marks = (dv.entries.filter fun e => e.mark).length →
      u = { s.dequeue p with
            devices := s.devices.set d (some
              { dv with
                state := .dormant, phase := .entries, losses := 0, probeDue := false
                probeRemaining := dv.params.probeInterval, probeElapsed := 0
                entries := dv.entries.map fun e =>
                  { e with state := .pending, applied := none, attempts := 0, mark := false } })
            txn := s.txn.map fun x =>
              if x.device = d ∧ (x.kind = .push ∨ x.kind = .marker ∨ x.kind = .probe) then { x with discard := true } else x
            profiles := s.profiles.counting marks
            ports := (s.dequeue p).eachPort fun q =>
              (q.answer (toEntryWaitsOf d .aborted)).answer (toSettleWaits d fun _ => (.aborted, .none)) } →
      v = (if marks = 0 then u else u.completionTest) →
      exec (.deactivate p) s = .next { v with ports := v.answered p tag .ok .none })

/-- R67 to R69: READ_DEVICE, in any device state, and RAW_WRITE, to a register that is neither an entry nor the check
register, join the tail of their port's manual queue and are outstanding; RAW_WRITE to a managed register answers
MANAGED, and a port with 4 requests outstanding is answered BUSY. -/
def Obligations.ManualRequestsJoinTheQueue : Prop :=
  ∀ (s : State) (p : Port) (tag b r : Byte) (d : DevNum) (dv : Device), s.Names b d dv →
    (s.Takes p (.readDevice b r) tag →
      (s.full p →
        exec (.readDevice p) s = .next { s.dequeue p with ports := (s.dequeue p).answered p tag .busy .none }) ∧
      (¬ s.full p →
        exec (.readDevice p) s = .next
          { s.dequeue p with
            ports := (s.dequeue p).ports.set p
              { (s.dequeue p).port p with
                manual := (s.port p).manual ++ [{ kind := .readDevice, tag := tag, device := d, register := r }]
                outstanding := (s.port p).outstanding ++ [{ tag := tag, kind := .readDevice, wait := .manual }] } })) ∧
    (∀ v, s.Takes p (.rawWrite b r v) tag →
      ((∃ e ∈ dv.entries, e.register = r) ∨ r = dv.params.checkRegister →
        exec (.rawWrite p) s = .next { s.dequeue p with ports := (s.dequeue p).answered p tag .managed .none }) ∧
      ((∀ e ∈ dv.entries, e.register ≠ r) → r ≠ dv.params.checkRegister →
        (s.full p →
          exec (.rawWrite p) s = .next { s.dequeue p with ports := (s.dequeue p).answered p tag .busy .none }) ∧
        (¬ s.full p →
          exec (.rawWrite p) s = .next
            { s.dequeue p with
              ports := (s.dequeue p).ports.set p
                { (s.dequeue p).port p with
                  manual := (s.port p).manual ++ [{ kind := .rawWrite v, tag := tag, device := d, register := r }]
                  outstanding := (s.port p).outstanding ++ [{ tag := tag, kind := .rawWrite, wait := .manual }] } })))

/-! ### Claims and profiles -/

/-- R95 and R96: CLAIM refuses a lease of 0, is HELD by the other port's claim, renews the requesting port's own claim
with the new lease alone, and otherwise creates the claim and clears the requesting port's late mark. -/
def Obligations.ClaimGrantsOrRenews : Prop :=
  ∀ (s : State) (p : Port) (tag b n : Byte) (d : DevNum) (dv : Device), s.Takes p (.claim b n) tag → s.Names b d dv →
    (n = 0 → exec (.claim p) s = .next { s.dequeue p with ports := (s.dequeue p).answered p tag .badRequest .none }) ∧
    (n ≠ 0 →
      (∀ c, s.claim d = some c → c.holder ≠ p →
        exec (.claim p) s = .next { s.dequeue p with ports := (s.dequeue p).answered p tag .held .none }) ∧
      (∀ c, s.claim d = some c → c.holder = p →
        exec (.claim p) s = .next
          { s.dequeue p with
            claims := s.claims.set d (some { holder := p, lease := n.toNat, elapsed := 0 })
            ports := (s.dequeue p).answered p tag .ok .none }) ∧
      (s.claim d = none →
        exec (.claim p) s = .next
          { s.dequeue p with
            claims := s.claims.set d (some { holder := p, lease := n.toNat, elapsed := 0 })
            late := s.late.set d ((s.late.get d).set p .none)
            ports := (s.dequeue p).answered p tag .ok .none }))

/-- R100 and R101 with R11 and R120: COMMIT from the holder moves every staged slot into its committed slot, with the
deferred switch if the device is deferred; the claim ends (State.claimEnded), every staged slot is empty, and the
answer, which comes last, is R101's, carrying the commit count of step 2 of R100. A COMMIT that would wait with 4
requests outstanding is refused BUSY with no effect. Nothing else changes. That the commit and the deferred switch are
compared as one whole change of each entry is the model's deduction (log entry 15). -/
def Obligations.CommitAppliesTheStagedValues : Prop :=
  ∀ (s : State) (p : Port) (tag b : Byte) (wait : Bool) (d : DevNum) (dv after : Device) (c : Claim)
    (put : Entry → Entry) (eff : Profile) (count : Nat) (v : State),
    s.Takes p (.commit b wait) tag → s.Names b d dv → s.claim d = some c → c.holder = p →
    (∀ x, put x =
      { x with
        base := x.stagedBase.getD x.base
        override1 := match x.staged1 with
          | none => x.override1
          | some .clear => none
          | some (.value v) => some v
        override2 := match x.staged2 with
          | none => x.override2
          | some .clear => none
          | some (.value v) => some v
        override3 := match x.staged3 with
          | none => x.override3
          | some .clear => none
          | some (.value v) => some v
        stagedBase := none, staged1 := none, staged2 := none, staged3 := none }) →
    eff = (if s.deferred d = true then s.profiles.target else dv.profile) →
    count = (dv.entries.filter fun e => decide ((put e).desired dv.profile ≠ e.desired dv.profile)).length →
    after = Device.reexamine (s.markerGranted d)
      { dv with profile := eff, entries := dv.entries.map (Entry.change put dv.profile eff dv.state) } →
    v = (s.dequeue p).claimEnded d dv put →
    v.devices = s.devices.set d (some after) ∧ v.claims = s.claims.set d none ∧
    (s.deferred d = false → v.profiles = s.profiles ∧ v.ports = (s.dequeue p).ports) ∧ v.deferred d = false ∧
    (wait = true → s.full p → after.state ≠ .dormant → after.state ≠ .fenced → after.settled = false →
      exec (.commit p) s = .next { s.dequeue p with ports := (s.dequeue p).answered p tag .busy .none }) ∧
    (wait = false → exec (.commit p) s = .next { v with ports := v.answered p tag .ok (.count count) }) ∧
    (wait = true → after.state = .dormant →
      exec (.commit p) s = .next { v with ports := v.answered p tag .notActive .none }) ∧
    (wait = true → after.state = .fenced →
      exec (.commit p) s = .next { v with ports := v.answered p tag .fenced .none }) ∧
    (wait = true → after.settled = true → after.state = .running →
      exec (.commit p) s = .next { v with ports := v.answered p tag .ok (.count count) }) ∧
    (wait = true → after.settled = true → after.state = .diverged →
      exec (.commit p) s = .next { v with ports := v.answered p tag .failed (.count after.failedCount) }) ∧
    (wait = true → ¬ s.full p → after.state ≠ .dormant → after.state ≠ .fenced → after.settled = false →
      exec (.commit p) s = .next
        { v with ports := v.deferredTo p { tag := tag, kind := .commit, wait := .settle d (some count) } })

/-- R102 with R120: ABANDON from the holder empties every staged slot, leaves the committed slots, ends the claim
(State.claimEnded) and answers OK last; only a deferred switch can move a desired value, and nothing else changes. R99
checks 3 to 5: COMMIT and ABANDON from a port that does not hold the claim are answered with the port's late mark,
which is cleared, else HELD by the other port's claim, else WRONG_STATE. -/
def Obligations.AbandonDiscardsAndLateMarksAnswerOnce : Prop :=
  (∀ (s : State) (p : Port) (tag b : Byte) (d : DevNum) (dv : Device) (c : Claim) (put : Entry → Entry) (eff : Profile),
      s.Takes p (.abandon b) tag → s.Names b d dv → s.claim d = some c → c.holder = p →
      (∀ x, put x = { x with stagedBase := none, staged1 := none, staged2 := none, staged3 := none }) →
      eff = (if s.deferred d = true then s.profiles.target else dv.profile) → ∀ v : State,
      v = (s.dequeue p).claimEnded d dv put →
      exec (.abandon p) s = .next { v with ports := v.answered p tag .ok .none } ∧
        v.devices = s.devices.set d (some (Device.reexamine (s.markerGranted d)
          { dv with profile := eff, entries := dv.entries.map (Entry.change put dv.profile eff dv.state) })) ∧
        v.claims = s.claims.set d none ∧ v.deferred d = false ∧
        (s.deferred d = false → v.profiles = s.profiles ∧ v.ports = (s.dequeue p).ports ∧
          ∀ e ∈ dv.entries, Entry.change put dv.profile eff dv.state e = put e)) ∧
  (∀ (s : State) (p : Port) (tag b : Byte) (d : DevNum) (dv : Device) (k : Instr),
      (∃ wait, s.Takes p (.commit b wait) tag ∧ k = .commit p) ∨ (s.Takes p (.abandon b) tag ∧ k = .abandon p) →
      s.Names b d dv → (∀ c, s.claim d = some c → c.holder ≠ p) →
      (s.lateMark d p = .expired →
        exec k s = .next
          { s.dequeue p with
            late := s.late.set d ((s.late.get d).set p .none)
            ports := (s.dequeue p).answered p tag .expired .none }) ∧
      (s.lateMark d p = .broken →
        exec k s = .next
          { s.dequeue p with
            late := s.late.set d ((s.late.get d).set p .none)
            ports := (s.dequeue p).answered p tag .broken .none }) ∧
      (s.lateMark d p = .none → (s.claim d).isSome = true →
        exec k s = .next { s.dequeue p with ports := (s.dequeue p).answered p tag .held .none }) ∧
      (s.lateMark d p = .none → s.claim d = none →
        exec k s = .next { s.dequeue p with ports := (s.dequeue p).answered p tag .wrongState .none }))

/-- R112, R113 and R115: SELECT_PROFILE is refused under source LINES and above 3; of the target itself it makes no
switch: it is answered OK, or with the wait flag joins the transition in flight unless the port is full or already
waits on it. -/
def Obligations.SelectProfileOfTheTargetOrRefused : Prop :=
  ∀ (s : State) (p : Port) (tag b : Byte) (wait : Bool), s.Takes p (.selectProfile b wait) tag →
    (s.profiles.source = .lines →
      exec (.selectProfile p) s = .next { s.dequeue p with ports := (s.dequeue p).answered p tag .notPermitted .none }) ∧
    (s.profiles.source = .requests → 4 ≤ b.toNat →
      exec (.selectProfile p) s = .next { s.dequeue p with ports := (s.dequeue p).answered p tag .badRequest .none }) ∧
    (s.profiles.source = .requests → b.toNat = s.profiles.target.val →
      (wait = false ∨ s.profiles.transition = none →
        exec (.selectProfile p) s = .next { s.dequeue p with ports := (s.dequeue p).answered p tag .ok .none }) ∧
      (wait = true → s.profiles.transition.isSome = true →
        (s.full p ∨ (∃ o ∈ (s.port p).outstanding, o.wait = .transition) →
          exec (.selectProfile p) s = .next { s.dequeue p with ports := (s.dequeue p).answered p tag .busy .none }) ∧
        (¬ s.full p → (∀ o ∈ (s.port p).outstanding, o.wait ≠ .transition) →
          exec (.selectProfile p) s = .next
            { s.dequeue p with
              ports := (s.dequeue p).deferredTo p { tag := tag, kind := .selectProfile, wait := .transition } })))

/-- R121 and R122, the completion test: with an entry marked or a device deferred nothing happens; otherwise
PROFILE_SETTLED is posted with the target and the unapplied count, the waiters are answered OK, or FAILED with the
count, and the record is removed. R113 check 3, R116 and R117: a SELECT_PROFILE of another profile P. The target
becomes P; each unclaimed device takes P whole (its entries moved and marked by CommittedChangesMoveTheEntryState) and
each claimed device keeps its profile; the waiters of a transition in flight are answered SUPERSEDED first
(State.switched). The new transition stays in flight while an entry carries a mark or a device is deferred, and
otherwise completes at once. A request with the wait flag waits on it; where it would stay in flight, that request is
refused BUSY with no switch made when its port is full. -/
def Obligations.SelectProfileSwitchesEveryDevice : Prop :=
  (∀ u : State,
    (u.profiles.transition = none → u.completionTest = u) ∧
    (∀ tr, u.profiles.transition = some tr →
      ((∃ d dv, u.device d = some dv ∧ ∃ e ∈ dv.entries, e.mark = true) ∨ (∃ d, tr.deferred.get d = true) →
        u.completionTest = u) ∧
      ((∀ d dv, u.device d = some dv → ∀ e ∈ dv.entries, e.mark = false) → (∀ d, tr.deferred.get d = false) →
        u.completionTest =
          { u with
            profiles := { u.profiles with transition := none }
            ports := u.eachPort fun q => (q.post (.profileSettled tr.target tr.unapplied)).answer
              (toWaiters (if tr.unapplied = 0 then (.ok, .none) else (.failed, .unapplied tr.unapplied))) }))) ∧
  ∀ (s : State) (p : Port) (tag : Byte) (P : Profile) (wait : Bool) (after : DevNum → Option Device)
    (held : DevNum → Prop) (stays : Prop) (count : Nat),
    s.Takes p (.selectProfile (BitVec.ofNat 8 P.val) wait) tag → s.profiles.source = .requests → P ≠ s.profiles.target →
    (∀ d, after d = (s.device d).map fun dv =>
      Device.reexamine (s.markerGranted d)
        (if (s.claim d).isSome = true then dv
        else { dv with profile := P, entries := dv.entries.map (Entry.change id dv.profile P dv.state) })) →
    (∀ d, held d ↔ ∃ dv, s.device d = some dv ∧ (s.claim d).isSome = true ∧ dv.profile ≠ P) →
    (stays ↔ (∃ d, held d) ∨ ∃ d dv, after d = some dv ∧ ∃ e ∈ dv.entries, e.mark = true) →
    count = (devNums.map fun d => match s.device d with
      | some dv =>
        if (s.claim d).isSome = true ∨ dv.state ≠ .fenced then 0
        else (dv.entries.filter fun e => decide (e.desired P ≠ e.desired dv.profile)).length
      | none => 0).sum →
    (∀ v : State, v = (s.dequeue p).switched P →
      (wait = false → exec (.selectProfile p) s = .next
        { v.completionTest with ports := v.completionTest.answered p tag .ok .none }) ∧
      (wait = true → ¬ (s.full p ∧ stays) →
        exec (.selectProfile p) s = .next (State.completionTest
          { v with ports := v.deferredTo p { tag := tag, kind := .selectProfile, wait := .transition } }))) ∧
    (wait = true → s.full p → stays →
      exec (.selectProfile p) s = .next { s.dequeue p with ports := (s.dequeue p).answered p tag .busy .none }) ∧
    (¬ (wait = true ∧ s.full p ∧ stays) →
      ∃ t, exec (.selectProfile p) s = .next t ∧
        t = { s.dequeue p with devices := t.devices, ports := t.ports, profiles := t.profiles } ∧
        t.profiles = { s.profiles with target := P, transition := t.profiles.transition } ∧
        (∀ d, t.device d = after d) ∧
        (s.profiles.transition.isSome = true →
          ∀ q, ((s.port q).responses ++
            (s.port q).outstanding.filterMap (fun w =>
              if w.wait = .transition then some ⟨w.tag, .superseded, .none⟩ else none)) <+: (t.port q).responses) ∧
        (wait = false → (t.port p).responses.getLast? = some ⟨tag, .ok, .none⟩) ∧
        (stays →
          (∃ tr, t.profiles.transition = some tr ∧ tr.target = P ∧ tr.unapplied = count ∧
            ∀ d, tr.deferred.get d = true ↔ held d) ∧
          (wait = true →
            (t.port p).outstanding.getLast? = some { tag := tag, kind := .selectProfile, wait := .transition })) ∧
        (¬ stays →
          t.profiles.transition = none ∧
          (wait = true → (t.port p).responses.getLast? =
            some (if count = 0 then ⟨tag, .ok, .none⟩ else ⟨tag, .failed, .unapplied count⟩)) ∧
          ∀ q, maskAdmits (s.port q).mask .profileSettled = true → (s.port q).notices.length < 16 →
            Notice.profileSettled P count ∈ (t.port q).notices))

/-- R114: SET_PROFILE_SOURCE refuses an operand other than LINES and REQUESTS; otherwise it sets the source and
answers OK last. It makes no switch where the source was LINES, stays as it was, or the line level is the target; a
change to LINES with another line level is a switch to the line level in the same happening (R116): the new record and
the SUPERSEDED answers as State.switched says, then the completion test as SelectProfileSwitchesEveryDevice says. -/
def Obligations.SetProfileSourceTakesTheLineLevel : Prop :=
  ∀ (s : State) (p : Port) (tag b : Byte), s.Takes p (.setProfileSource b) tag →
    (1 < b.toNat →
      exec (.setProfileSource p) s = .next { s.dequeue p with ports := (s.dequeue p).answered p tag .badRequest .none }) ∧
    (b.toNat ≤ 1 → (b = 0 ∨ s.profiles.source = .lines ∨ s.profiles.lineLevel = s.profiles.target) →
      exec (.setProfileSource p) s = .next
        { s.dequeue p with
          profiles := { s.profiles with source := if b = 0 then .requests else .lines }
          ports := (s.dequeue p).answered p tag .ok .none }) ∧
    (b = 1 → s.profiles.source = .requests → s.profiles.lineLevel ≠ s.profiles.target →
      ∀ v : State,
      v = (State.switched { s.dequeue p with profiles := { s.profiles with source := .lines } }
        s.profiles.lineLevel).completionTest →
      exec (.setProfileSource p) s = .next { v with ports := v.answered p tag .ok .none } ∧
        v.profiles =
          { s.profiles with
            source := .lines, target := s.profiles.lineLevel, transition := v.profiles.transition } ∧
        ∀ d, v.device d = (s.device d).map fun dv =>
          Device.reexamine (s.markerGranted d)
            (if (s.claim d).isSome = true then dv
            else
              { dv with
                profile := s.profiles.lineLevel
                entries := dv.entries.map (Entry.change id dv.profile s.profiles.lineLevel dv.state) }))

/-! ### Saves, cold starts and the supply hold -/

/-- R181 to R183: SAVE_IMAGE is refused BUSY while a save is WRITING, FAILED when the newest valid bank holds sequence
2^32 − 1, and BUSY with 4 requests outstanding; otherwise it takes the snapshot whole, chooses the bank that R177
would not select with a sequence above every valid one, makes that bank invalid and leaves the request outstanding.
R183: SAVE_END makes the bank valid with the new sequence and snapshot, or leaves it invalid; it records the outcome
and the sequence, answers the SAVE_IMAGE OK with the sequence or FAILED, and then posts SAVE_DONE with the outcome and
the sequence (NoticesCoalesceOrJoinOrAreLost says what a posting does to a list). Nothing else changes. -/
def Obligations.SavesTakeASnapshotAndEnd : Prop :=
  (∀ (s : State) (tag : Byte), s.Takes .h .saveImage tag →
      (s.save.phase = .writing →
        exec (.saveImage .h) s = .next { s.dequeue .h with ports := (s.dequeue .h).answered .h tag .busy .none }) ∧
      (s.save.phase ≠ .writing →
        ((∃ i n x, selectBank s.bankA s.bankB = some (i, n, x) ∧ n = 4294967295) →
          exec (.saveImage .h) s = .next { s.dequeue .h with ports := (s.dequeue .h).answered .h tag .failed .none }) ∧
        ((∀ i n x, selectBank s.bankA s.bankB = some (i, n, x) → n ≠ 4294967295) →
          (s.full .h →
            exec (.saveImage .h) s = .next { s.dequeue .h with ports := (s.dequeue .h).answered .h tag .busy .none }) ∧
          (¬ s.full .h →
            ∃ i n, exec (.saveImage .h) s = .next
                { s.dequeue .h with
                  bankA := if i = .a then .invalid else s.bankA
                  bankB := if i = .b then .invalid else s.bankB
                  save := { s.save with
                    phase := .writing
                    record := some
                      { bank := i
                        sequence := n
                        snapshot :=
                          { source := s.profiles.source, bootProfile := s.profiles.target
                            devices := PerDevice.ofFn fun d => (s.device d).map fun dv =>
                              { params := dv.params, active := decide (dv.state ≠ .dormant)
                                entries := dv.entries.map fun e =>
                                  { register := e.register, owner := e.owner, verifyMask := e.verifyMask, base := e.base
                                    override1 := e.override1, override2 := e.override2, override3 := e.override3 } } } } }
                  ports := (s.dequeue .h).deferredTo .h { tag := tag, kind := .saveImage, wait := .save } } ∧
              (∀ j m x, selectBank s.bankA s.bankB = some (j, m, x) → i ≠ j ∧ n = m + 1) ∧
              (selectBank s.bankA s.bankB = none → i = .a ∧ n = 1))))) ∧
  (∀ (s : State) (r : SaveRecord) (verified : Bool), s.save.phase = .writing → s.save.record = some r →
      exec (.saveEnd verified) s = .next
            { s with
              bankA := if r.bank = .a then (if verified then .valid r.sequence r.snapshot else .invalid) else s.bankA
              bankB := if r.bank = .b then (if verified then .valid r.sequence r.snapshot else .invalid) else s.bankB
              save :=
                { phase := .idle, record := none, lastOutcome := if verified then .ok else .failed
                  lastSequence := r.sequence }
              ports := s.eachPort fun q => PortSide.post (.saveDone verified r.sequence)
                { q with
                  outstanding := q.outstanding.filter fun o => decide (o.wait ≠ .save)
                  responses := q.responses ++
                    (q.outstanding.filter fun o => decide (o.wait = .save)).map fun o =>
                      if verified then ⟨o.tag, .ok, .sequence r.sequence⟩ else ⟨o.tag, .failed, .none⟩ } })

/-- R175, R179 and R187: RST_ASSERT, POWER_UP, a fall below the retain level and a RESTART that finds no save WRITING
enter START; all volatile state is discarded, and the banks stay as they were, so that a bank being written stays
invalid (R183). RESTART during a save answers BUSY. RST_RELEASE, and a supply that crosses the run level where R174
gives no transition, change the input alone. That the volatile state stands at the values of State.reset already in
START is the model's choice (log entries 10 and 3), and so is that an edge of RST# or of VDD is taken whatever level
is recorded (log entry 13). -/
def Obligations.ColdStartsKeepTheBanksAlone : Prop :=
  ∀ (s cold : State),
    cold =
      { State.reset with
        inputs := s.inputs, bankA := s.bankA, bankB := s.bankB, pending := s.pending } →
    exec .rstAssert s = .next { cold with inputs := { s.inputs with rst := true } } ∧
    exec .rstRelease s = .next { s with inputs := { s.inputs with rst := false } } ∧
    (s.hubState ≠ .ready → s.inputs.supply = .aboveRun →
      exec .vddBelowRunLevel s = .next { s with inputs := { s.inputs with supply := .belowRun } }) ∧
    (s.hubState ≠ .lowSupply →
      exec .vddAboveRunLevel s = .next { s with inputs := { s.inputs with supply := .aboveRun } }) ∧
    (s.inputs.supply = .belowRetain →
      exec .powerUp s = .next { cold with inputs := { s.inputs with supply := .belowRun } }) ∧
    (s.inputs.supply ≠ .belowRetain →
      exec .vddBelowRetainLevel s = .next { cold with inputs := { s.inputs with supply := .belowRetain } }) ∧
    (∀ tag, s.Takes .h .restart tag →
      (s.save.phase ≠ .writing → exec (.restart .h) s = .next cold) ∧
      (s.save.phase = .writing →
        exec (.restart .h) s = .next { s.dequeue .h with ports := (s.dequeue .h).answered .h tag .busy .none }))

/-- R176 to R178 with R23 and R124: the start steps, complete with RST# released and VDD above the run level, build
the image from the newer valid bank, give every other block its cold-start values, and make the hub READY with STARTED
first in both notice lists. That Port H is in IDLE and UNSYNCED at once as READY comes (R148 and R178 against R159) is
the model's deduction (log entry 2), and so is that the samples of ADR1:0 and PSEL1:0 are operands of the command (log
entry 11), and the two bits of Port H that no field table lists stand at no (log entry 20). -/
def Obligations.StartStepsBuildTheImage : Prop :=
  ∀ (s : State) (adr : Fin 4) (psel : Profile) (bank : Option (Origin × Snapshot)),
    s.hubState = .start → s.inputs.rst = false → s.inputs.supply = .aboveRun →
    (bank = match s.bankA, s.bankB with
      | .valid n x, .valid m y => if n < m then some (.bankB, y) else some (.bankA, x)
      | .valid _ x, .invalid => some (.bankA, x)
      | .invalid, .valid _ y => some (.bankB, y)
      | .invalid, .invalid => none) →
    ∃ t, exec (.startStepsComplete adr psel) s = .next t ∧
      t.hubState = .ready ∧
      t.origin = (match bank with
        | some b => b.1
        | none => .noImage) ∧
      t.profiles.source = (match bank with
        | some b => b.2.source
        | none => .requests) ∧
      t.profiles.target = (match bank with
        | some b => if b.2.source = .lines then psel else b.2.bootProfile
        | none => 0) ∧
      t.profiles.lineLevel = psel ∧
      t.profiles.candidate = (if s.inputs.psel = psel then none else some s.inputs.psel) ∧
      t.profiles.candidateTime = 0 ∧ t.profiles.transition = none ∧
      (∀ d, t.device d = match bank with
        | some b => (b.2.devices.get d).map fun x =>
          { params := x.params
            state := if x.active then .loading else .dormant
            phase := if x.active = true ∧ x.entries = [] then .marker else .entries
            probeRemaining := x.params.probeInterval, probeElapsed := 0, probeDue := false, losses := 0
            profile := t.profiles.target
            entries := x.entries.map fun e =>
              { register := e.register, owner := e.owner, verifyMask := e.verifyMask, base := e.base
                override1 := e.override1, override2 := e.override2, override3 := e.override3, state := .pending
                applied := none, attempts := 0, stagedBase := none, staged1 := none, staged2 := none, staged3 := none
                mark := false } }
        | none => none) ∧
      (∀ d, t.claim d = none ∧ ∀ p, t.lateMark d p = .none) ∧
      t.cursor = 0 ∧ t.rotation = .pushWalker ∧ t.portRotation = .h ∧ t.txn = none ∧ t.link = none ∧
      (∀ p, t.port p =
        { requests := [], outstanding := [], responses := [], manual := [], notices := [.started t.origin], mask := 1023
          lost := false, responseEnable := false, noticeEnable := false }) ∧
      t.save = { phase := .idle, record := none, lastOutcome := .none, lastSequence := 0 } ∧
      t.portH.address.toNat = 0x5C + adr.val ∧
      t.portH =
        { address := t.portH.address, phase := .idle, unsynced := true, buffer := .empty, cursor := .none
          stopped := false, ack := false } ∧
      t.portL =
        { framing := if s.inputs.lfrm then .unsynced else .idle, latch := none, buffer := .empty, outLatch := 0
          outFull := false, cursor := none } ∧
      t.inputs = s.inputs ∧ t.bankA = s.bankA ∧ t.bankB = s.bankB ∧ t.pending = s.pending

/-- R65, R160, R173 and R185: VDD falling below the run level takes READY to LOW_SUPPLY, from every state in which a
frame is on the link only within a transaction (R52, R61: TheLinkIsIdleOutsideReady). The transaction is cut: its
select line is deasserted, DCLK stopped low and DDAT released; a push's entry becomes PENDING with applied value
absent and attempts kept, a probe is due again, each unless marked for discard, and the cursor advances for PUSH and
MARKER. Both ports become INACTIVE: Port H empties a buffer that is ASSEMBLING in WRITE and keeps it in every other
phase (in SKIP, too: log entry 8), Port L keeps a COMPLETE frame and its outbound latch; a save in WRITING is ABORTED.
Everything else is kept. The two bits that no field table lists, Port H's refused byte and last acknowledge (log entry
20), and UNSYNCED (log entry 2) go to no: the model's choice. -/
def Obligations.SupplyHoldCutsAndKeeps : Prop :=
  ∀ s : State, s.hubState = .ready → s.idleLaw = true →
    ∃ t, exec .vddBelowRunLevel s = .next t ∧
      t = { s with
            hubState := .lowSupply, inputs := { s.inputs with supply := .belowRun }, devices := t.devices
            cursor := t.cursor, txn := none, link := none, portH := t.portH, portL := t.portL, save := t.save } ∧
      (s.txn = none → t.devices = s.devices ∧ t.cursor = s.cursor) ∧
      (∀ x, s.txn = some x →
        t.cursor =
          (if x.kind = .push ∨ x.kind = .marker then (if x.device = 5 then 0 else x.device + 1) else s.cursor) ∧
        (∀ d, d ≠ x.device → t.device d = s.device d) ∧
        (x.discard = true ∨ x.kind = .marker ∨ x.kind = .manualRead ∨ x.kind = .manualWrite → t.devices = s.devices) ∧
        (x.discard = false → x.kind = .push →
          t.device x.device = (s.device x.device).map fun dv =>
            { dv with
              entries := dv.entries.map fun e =>
                if e.register = x.register ∧ e.isInFlight = true then { e with state := .pending, applied := none } else e }) ∧
        (x.discard = false → x.kind = .probe →
          t.device x.device = (s.device x.device).map fun dv =>
            { dv with probeDue := true, probeRemaining := 0, probeElapsed := 0 })) ∧
      (∀ k, t.linkLines k = { select := none, dclkPeriod := none, ddat := none }) ∧
      t.portH =
        { s.portH with
          phase := .inactive, unsynced := false, cursor := .none, stopped := false, ack := false
          buffer := if s.portH.phase = .write ∧ s.portH.buffer.isComplete = false then .empty else s.portH.buffer } ∧
      t.portL =
        { s.portL with
          framing := .inactive, latch := none
          buffer := if s.portL.buffer.isComplete = true then s.portL.buffer else .empty } ∧
      t.save = (if s.save.phase = .writing then { s.save with phase := .aborted } else s.save)

/-- R88, R111 and R186: VDD rising above the run level in LOW_SUPPLY returns the hub to READY. Each device recovers by
R88's table; an ABORTED save is answered FAILED, and SAVE_DONE is posted with FAILED and the sequence attempted
(NoticesCoalesceOrJoinOrAreLost says what a posting does to a list), before SUPPLY_RESTORED, which is posted after
every hold; Port H becomes IDLE and Port L reads LFRM#. That Port H is in IDLE and UNSYNCED at once (R160 and R186
against R159) is the model's deduction (log entry 2). -/
def Obligations.ReturnToReadyRecoversEachDevice : Prop :=
  ∀ s : State, s.hubState = .lowSupply →
    ∃ t, exec .vddAboveRunLevel s = .next t ∧
      t = { s with
            hubState := .ready, inputs := { s.inputs with supply := .aboveRun }, devices := t.devices
            profiles := t.profiles, ports := t.ports, portH := { s.portH with phase := .idle, unsynced := true }
            portL := { s.portL with framing := if s.inputs.lfrm then .unsynced else .idle }, save := t.save } ∧
      (∀ d, s.device d = none → t.device d = none) ∧
      (∀ d dv, s.device d = some dv →
        (dv.state = .dormant ∨ dv.state = .fenced → t.device d = some dv) ∧
        (dv.state = .loading → t.device d = some dv.beginLoad) ∧
        (dv.state = .running ∨ dv.state = .diverged → dv.params.probeInterval = 0 → t.device d = some dv.beginLoad) ∧
        ((dv.state = .running ∨ dv.state = .diverged) ∧ dv.params.probeInterval ≠ 0 ∨ dv.state = .suspect →
          t.device d = some { dv with state := .suspect, probeDue := true, probeRemaining := 0, probeElapsed := 0 })) ∧
      t.profiles =
        (if s.inputs.psel = s.profiles.lineLevel then { s.profiles with candidate := none, candidateTime := 0 }
        else if s.profiles.candidate = some s.inputs.psel then s.profiles
        else { s.profiles with candidate := some s.inputs.psel, candidateTime := 0 }) ∧
      (s.save.phase ≠ .aborted ∨ s.save.record = none →
        t.save = s.save ∧ t.ports = s.eachPort fun q => q.post .supplyRestored) ∧
      (∀ r, s.save.phase = .aborted → s.save.record = some r →
        t.save = { phase := .idle, record := none, lastOutcome := .failed, lastSequence := r.sequence } ∧
        t.ports = s.eachPort fun q => PortSide.post .supplyRestored (PortSide.post (.saveDone false r.sequence)
          { q with
            outstanding := q.outstanding.filter fun o => decide (o.wait ≠ .save)
            responses := q.responses ++
              (q.outstanding.filter fun o => decide (o.wait = .save)).map fun o => ⟨o.tag, .failed, .none⟩ }))

/-! ### The device link -/

/-- R61, R62 and R77: while the link is free, the hub READY and HOLD not asserted, a due probe is granted ahead of the
rotation, to the lowest-numbered device with one due: its probe stops being due, its timer is reloaded, and the read
of its check register is on the link. The rotation pointer, the cursor and the other devices stay. While HOLD is
asserted, while a transaction is in progress, and outside READY nothing is granted. A change of HOLD changes its level
alone. -/
def Obligations.ProbesAreGrantedFirst : Prop :=
  ∀ s : State,
    (∀ level, exec (.holdChange level) s = .next { s with inputs := { s.inputs with hold := level } }) ∧
    (s.inputs.hold = true ∨ s.txn.isSome = true ∨ s.hubState ≠ .ready →
      ∀ c ∈ [Instr.probeGrant, .pushGrant, .markerGrant, .manualRead, .manualWrite], exec c s = .next s) ∧
    (∀ d dv, s.txn = none → s.hubState = .ready → s.inputs.hold = false → s.device d = some dv → dv.probeDue = true →
      (∀ e ev, e < d → s.device e = some ev → ev.probeDue = false) →
      (∀ c ∈ [Instr.pushGrant, .markerGrant, .manualRead, .manualWrite], exec c s = .next s) ∧
      exec .probeGrant s = .next
        { s with
          devices := s.devices.set d (some
            { dv with probeDue := false, probeRemaining := dv.params.probeInterval, probeElapsed := 0 })
          txn := some
            { kind := .probe, device := d, register := dv.params.checkRegister, requester := .lossUnit, frame := 1
              readsMade := 0, discard := false, params := dv.params }
          link := some
            { device := d, op := .read, register := dv.params.checkRegister, data := 0
              speedClass := dv.params.speedClass } })

/-- R38 and R39 as choices: the walker's device has push work and none between the cursor and it has. R61 to R63: a
rotation grant is made while the link is free, the hub READY, HOLD not asserted and no probe due, to the first
requester from rotation next on that has work, in the order PUSH WALKER, MANUAL H, MANUAL L. R27, R38, R39 and R63: a
grant to the push walker goes to the first device with push work from the cursor upward, and rotation next becomes
MANUAL H. In load phase MARKER it starts the marker transaction; otherwise the PENDING entry with the lowest register
becomes IN_FLIGHT in phase WRITE, its sent value the desired value, which the write frame carries. -/
def Obligations.WalkerGrantsPushOrMarkerByRotation : Prop :=
  (∀ s : State,
      (∀ d, s.pushWork d = true ↔ ∃ dv, s.device d = some dv ∧ s.claim d = none ∧
        (dv.state = .loading ∨ dv.state = .running ∨ dv.state = .diverged) ∧
        ((∃ e ∈ dv.entries, e.state = .pending) ∨ (dv.state = .loading ∧ dv.phase = .marker))) ∧
      (∀ d, s.walkerChoice = some d →
        s.pushWork d = true ∧ ∀ k : Nat, k < (d.val + 6 - s.cursor.val) % 6 →
          ∀ e : DevNum, e.val = (s.cursor.val + k) % 6 → s.pushWork e = false) ∧
      (s.walkerChoice = none ↔ ∀ d, s.pushWork d = false) ∧
      (s.hasWork .pushWalker = true ↔ ∃ d, s.pushWork d = true) ∧
      (s.hasWork .manualH = true ↔ (s.port .h).manual ≠ []) ∧ (s.hasWork .manualL = true ↔ (s.port .l).manual ≠ []) ∧
      (∀ r, s.rotationGrant = some r ↔
        s.txn = none ∧ s.hubState = .ready ∧ s.inputs.hold = false ∧
        (∀ d dv, s.device d = some dv → dv.probeDue = false) ∧ s.hasWork r = true ∧
        (r = s.rotation ∨ s.hasWork s.rotation = false ∧ (r = s.rotation.next ∨ s.hasWork s.rotation.next = false)))) ∧
  Rotation.next .pushWalker = .manualH ∧ Rotation.next .manualH = .manualL ∧ Rotation.next .manualL = .pushWalker ∧
  (∀ (s : State) (d : DevNum) (dv : Device), s.rotationGrant = some .pushWalker → s.walkerChoice = some d →
      s.device d = some dv →
      (dv.state = .loading → dv.phase = .marker →
        exec .markerGrant s = .next
          { s with
            rotation := .manualH
            txn := some
              { kind := .marker, device := d, register := dv.params.checkRegister, requester := .pushWalker, frame := 1
                readsMade := 0, discard := false, params := dv.params }
            link := some
              { device := d, op := .write, register := dv.params.checkRegister, data := dv.params.marker
                speedClass := dv.params.speedClass } }) ∧
      (¬ (dv.state = .loading ∧ dv.phase = .marker) → ascending (dv.entries.map Entry.register) = true →
        ∃ e ∈ dv.entries, e.state = .pending ∧
          (∀ x ∈ dv.entries, x.state = .pending → e.register.toNat ≤ x.register.toNat) ∧
          exec .pushGrant s = .next
            { s with
              rotation := .manualH
              devices := s.devices.set d (some
                { dv with
                  entries := dv.entries.map fun x =>
                    if x.register = e.register then { x with state := .inFlight .write (x.desired dv.profile) } else x })
              txn := some
                { kind := .push, device := d, register := e.register, requester := .pushWalker, frame := 1, readsMade := 0
                  discard := false, params := dv.params }
              link := some
                { device := d, op := .write, register := e.register, data := e.desired dv.profile
                  speedClass := dv.params.speedClass } }))

/-- R63, R70 and R71: a manual queue that the rotation grants starts the transfer at its head: a read of the register
for READ_DEVICE, a write of the value for RAW_WRITE, at the device's speed class. The transfer stays in the queue. R70
and R71: a read with good parity answers the transfer OK with the 16 bits, a parity error leads to another read while
fewer than retry limit + 1 have been made and then answers FAILED, and a write's end answers OK. The answered transfer
leaves the manual queue and the outstanding set in the same happening, and the transaction ends; no device is touched.
-/
def Obligations.ManualTransfersRunAndAreAnswered : Prop :=
  (∀ (s : State) (p : Port) (x : Transfer) (rest : List Transfer) (dv : Device),
      s.rotationGrant = some (if p = .h then .manualH else .manualL) → (s.port p).manual = x :: rest →
      s.device x.device = some dv →
      (x.kind = .readDevice →
        exec .manualRead s = .next
          { s with
            rotation := if p = .h then .manualL else .pushWalker
            txn := some
              { kind := .manualRead, device := x.device, register := x.register, requester := .manual p, frame := 1
                readsMade := 0, discard := false, params := dv.params }
            link := some
              { device := x.device, op := .read, register := x.register, data := 0, speedClass := dv.params.speedClass } }) ∧
      (∀ v, x.kind = .rawWrite v →
        exec .manualWrite s = .next
          { s with
            rotation := if p = .h then .manualL else .pushWalker
            txn := some
              { kind := .manualWrite, device := x.device, register := x.register, requester := .manual p, frame := 1
                readsMade := 0, discard := false, params := dv.params }
            link := some
              { device := x.device, op := .write, register := x.register, data := v
                speedClass := dv.params.speedClass } })) ∧
  (∀ (s : State) (t : Txn) (p : Port) (x : Transfer) (rest : List Transfer) (f : LinkFrame)
      (answer : OutcomeCode → Payload → State),
      s.txn = some t → s.link = some f → t.requester = .manual p → (s.port p).manual = x :: rest →
      (∀ o pl, answer o pl =
        { s with
          txn := none
          link := none
          ports := s.ports.set p
            { s.port p with
              manual := rest
              outstanding := (s.port p).outstanding.filter fun w => decide (¬ (w.wait = .manual ∧ w.tag = x.tag))
              responses := (s.port p).responses ++
                ((s.port p).outstanding.filter fun w => decide (w.wait = .manual ∧ w.tag = x.tag)).map
                  fun w => ⟨w.tag, o, pl⟩ } }) →
      (t.kind = .manualRead →
        (∀ v, exec (.manualReadFrameEnd (sampleOf v)) s = .next (answer .ok (.value v))) ∧
        ∀ bits, readResult bits = none →
          (t.readsMade + 1 < t.params.retryLimit + 1 →
            exec (.manualReadFrameEnd bits) s = .next
              { s with link := none, txn := some { t with readsMade := t.readsMade + 1 } }) ∧
          (t.params.retryLimit + 1 ≤ t.readsMade + 1 →
            exec (.manualReadFrameEnd bits) s = .next (answer .failed .none))) ∧
      (t.kind = .manualWrite → exec .manualWriteFrameEnd s = .next (answer .ok .none)))

/-- R29 and R57: a push under READBACK, a marker transaction and a read that must be repeated go on in the same
transaction: the frame ends, the link is idle for the gap, and the follow-on frame is a read of the transaction's
register, with no new grant. A push's entry moves to phase READBACK at the end of its write frame. R59 and R60: a
transaction marked for discard runs through the same frames, and its last frame's end hands nothing over: the record
is removed, the link freed, and the cursor advances for PUSH and MARKER; no device, port or count changes. -/
def Obligations.TransactionsRunTheirFramesAndDiscard : Prop :=
  (∀ (s : State) (t : Txn), s.txn = some t →
      (s.link = none → s.hubState = .ready →
        exec .followOnFrameStart s = .next
          { s with
            txn := some { t with frame := t.frame + 1 }
            link := some
              { device := t.device, op := .read, register := t.register, data := 0, speedClass := t.params.speedClass } }) ∧
      (∀ f, s.link = some f →
        (t.kind = .marker → t.frame = 1 → exec .markerWriteFrameEnd s = .next { s with link := none }) ∧
        (∀ bits, readResult bits = none →
          (t.kind = .marker → t.frame = 2 → exec (.confirmReadEnd bits) s = .next { s with link := none }) ∧
          (t.kind = .probe → t.frame = 1 → exec (.probeReadEnd bits) s = .next { s with link := none })) ∧
        (t.kind = .push → t.frame = 1 → t.params.verifyPolicy = .readback → t.discard = false → ∀ dv,
          s.device t.device = some dv →
          exec .pushWriteFrameEnd s = .next
            { s with
              link := none
              devices := s.devices.set t.device (some
                { dv with
                  entries := dv.entries.map fun e => if e.register = t.register then
                    { e with state := match e.state with
                        | .inFlight _ v => .inFlight .readback v
                        | x => x }
                    else e }) }))) ∧
  (∀ (s : State) (t : Txn) (f : LinkFrame), s.txn = some t → s.link = some f → t.discard = true →
      (t.kind = .push → t.frame = 1 → t.params.verifyPolicy = .none →
        exec .pushWriteFrameEnd s = .next
          { s with txn := none, link := none, cursor := if t.device = 5 then 0 else t.device + 1 }) ∧
      (t.kind = .push → t.frame = 1 → t.params.verifyPolicy = .readback →
        exec .pushWriteFrameEnd s = .next { s with link := none }) ∧
      (∀ bits, t.kind = .push → t.frame = 2 →
        exec (.readbackEnd bits) s = .next
          { s with txn := none, link := none, cursor := if t.device = 5 then 0 else t.device + 1 }) ∧
      (∀ bits, t.kind = .marker → t.frame = 3 ∨ (t.frame = 2 ∧ readResult bits ≠ none) →
        exec (.confirmReadEnd bits) s = .next
          { s with txn := none, link := none, cursor := if t.device = 5 then 0 else t.device + 1 }) ∧
      (∀ bits, t.kind = .probe → t.frame = 2 ∨ (t.frame = 1 ∧ readResult bits ≠ none) →
        exec (.probeReadEnd bits) s = .next { s with txn := none, link := none }))

/-- R53 to R55 and R195: a frame is the operation, the register, the data and the parity, most significant first; the
17 bits of data and parity of a value have even parity and read back as the value; one corrupted bit among them is a
parity error, and so is a line that no slave drives; two corrupted bits are not seen, and a line held low reads as 0.
R52 to R54 and R56: while the link is idle every select line is deasserted, DCLK low and DDAT released and high by the
pull-up; while a frame is on it the select line of its device alone is asserted, DCLK runs at the rate of its speed
class, and the hub drives all 27 bits of a write frame and the first 10 of a read frame. -/
def Obligations.LinkFramesCarryEvenParity : Prop :=
  (∀ f : LinkFrame,
    f.writeBits = (if f.op = .write then (1 : BitVec 2) else 2) ++ f.register ++ f.data ++
      BitVec.ofBool (decide (((List.range 16).filter fun i => f.data.getLsbD i).length % 2 = 1))) ∧
  (∀ v : Value, readResult (sampleOf v) = some v) ∧
  (∀ (b : SampledBits) (v : Value), readResult b = some v ↔ b = sampleOf v) ∧
  (∀ (v : Value) (i : Fin 17), readResult (sampleOf v ^^^ BitVec.twoPow 17 i.val) = none) ∧
  (∀ (v : Value) (i j : Fin 17), i ≠ j →
    (readResult (sampleOf v ^^^ BitVec.twoPow 17 i.val ^^^ BitVec.twoPow 17 j.val)).isSome = true) ∧
  readResult 0 = some 0 ∧
  readResult (BitVec.allOnes 17) = none ∧
  (∀ (s : State) (k : Nat), s.link = none →
    s.linkLines k = { select := none, dclkPeriod := none, ddat := none } ∧ (s.linkLines k).ddatLevel none = true) ∧
  (∀ (s : State) (f : LinkFrame) (k : Nat), s.link = some f → k < 27 →
    (s.linkLines k).select = some f.device ∧ (s.linkLines k).dclkPeriod = some (500 * 2 ^ f.speedClass) ∧
    (k < 10 ∨ f.op = .write → (s.linkLines k).ddat = some (f.writeBits.getLsbD (26 - k))) ∧
    (10 ≤ k → f.op = .read → (s.linkLines k).ddat = none ∧ ∀ slave, (s.linkLines k).ddatLevel (some slave) = slave))

/-! ### Judgements -/

/-- R28, R44 and R119: the write frame of a push under verify policy NONE ends and the entry is judged by the
sent-value rule: APPLIED where the desired value is still the sent one, else PENDING with the sent value applied and
attempts 0. R13, R29, R30 and R119: a readback with good parity that matches the sent value under the entry's mask
applies the sent value by the same rule; a parity error or a mismatch is a failed attempt, which leaves the entry
PENDING below retry limit + 1 attempts and FAILED at it. In either form (R34, R44 to R46, R122): an entry that becomes
APPLIED answers its entry waits OK or SUPERSEDED with the applied value, one that becomes FAILED answers them FAILED
and posts ENTRY_FAILED; the device is re-examined, and where it becomes settled its device-settle waits are answered;
a mark so cleared, counted as unapplied with FAILED, calls for the completion test (SelectProfileSwitchesEveryDevice).
The transaction ends, the cursor advances, and nothing else changes. -/
def Obligations.PushesAreJudged : Prop :=
  (∀ (s u v : State) (t : Txn) (f : LinkFrame) (dv after : Device) (e new : Entry) (ph : PushPhase) (x : Value),
      s.txn = some t → s.link = some f → t.kind = .push → t.frame = 1 → t.discard = false →
      t.params.verifyPolicy = .none → s.device t.device = some dv → findEntry t.register dv.entries = some e →
      e.state = .inFlight ph x →
      new = (if e.desired dv.profile = x then { e with state := .applied, applied := some x, mark := false }
        else { e with state := .pending, applied := some x, attempts := 0 }) →
      after = Device.reexamine (s.markerGranted t.device)
        { dv with entries := dv.entries.map fun y => if y.register = t.register then new else y } →
      u = { s with
            devices := s.devices.set t.device (some after)
            ports := s.eachPort fun q =>
              PortSide.settling t.device dv after
                (if new.state = .applied then
                  q.answer (toEntryWaits t.device t.register fun expected =>
                    (if x = expected then .ok else .superseded, .value x))
                else q) } →
      v = (if e.mark = true ∧ new.mark = false then u.completionTest else u) →
      exec .pushWriteFrameEnd s = .next
        { v with txn := none, link := none, cursor := if t.device = 5 then 0 else t.device + 1 }) ∧
  (∀ (s u v : State) (t : Txn) (f : LinkFrame) (dv after : Device) (e new : Entry) (ph : PushPhase) (x : Value)
      (bits : SampledBits) (good : Prop),
      s.txn = some t → s.link = some f → t.kind = .push → t.frame = 2 → t.discard = false →
      s.device t.device = some dv → findEntry t.register dv.entries = some e → e.state = .inFlight ph x →
      (good ↔ ∃ r, readResult bits = some r ∧ ∀ i, e.verifyMask.getLsbD i = true → r.getLsbD i = x.getLsbD i) →
      (good → new = (if e.desired dv.profile = x then { e with state := .applied, applied := some x, mark := false }
        else { e with state := .pending, applied := some x, attempts := 0 })) →
      (¬ good → new = (if e.attempts + 1 < dv.params.retryLimit + 1 then
          { e with state := .pending, applied := none, attempts := e.attempts + 1 }
        else { e with state := .failed, applied := none, attempts := e.attempts + 1, mark := false })) →
      after = Device.reexamine (s.markerGranted t.device)
        { dv with entries := dv.entries.map fun y => if y.register = t.register then new else y } →
      u = { s with
            devices := s.devices.set t.device (some after)
            profiles := if e.mark = true ∧ new.state = .failed then s.profiles.counting 1 else s.profiles
            ports := s.eachPort fun q =>
              PortSide.settling t.device dv after
                (if new.state = .applied then
                  q.answer (toEntryWaits t.device t.register fun expected =>
                    (if x = expected then .ok else .superseded, .value x))
                else if new.state = .failed then
                  (q.answer (toEntryWaits t.device t.register fun _ => (.failed, .none))).post
                    (.entryFailed t.device t.register)
                else q) } →
      v = (if e.mark = true ∧ new.mark = false then u.completionTest else u) →
      exec (.readbackEnd bits) s = .next
        { v with txn := none, link := none, cursor := if t.device = 5 then 0 else t.device + 1 })

/-- R37 and R80: a confirm read that matches the marker ends the load: the device becomes RUNNING, or DIVERGED with an
entry FAILED, in phase CONFIRMED; with probing off its loss count is cleared; LOAD_DONE is posted with the failed
count, and a device so settled answers its device-settle waits OK, with the commit count where a COMMIT opened them,
or FAILED with the failed count (R34, R46, R101). R74, R79 and R89: a probe read that matches the marker clears the
loss count; a RUNNING or DIVERGED device is otherwise unchanged, and a SUSPECT one returns to RUNNING, or to DIVERGED
with an entry FAILED, and answers its device-settle waits in the same way where it is then settled. -/
def Obligations.MatchingMarkerEndsTheLoadOrClearsTheCount : Prop :=
  (∀ (s : State) (t : Txn) (f : LinkFrame) (dv after : Device) (failed : Nat),
      s.txn = some t → s.link = some f → t.kind = .marker → t.frame = 2 ∨ t.frame = 3 → t.discard = false →
      s.device t.device = some dv → dv.state = .loading →
      failed = (dv.entries.filter fun e => decide (e.state = .failed)).length →
      after =
        { dv with
          state := if failed = 0 then .running else .diverged
          phase := .confirmed
          losses := if dv.params.probeInterval = 0 then 0 else dv.losses } →
      exec (.confirmReadEnd (sampleOf dv.params.marker)) s = .next
        { s with
          txn := none, link := none, cursor := if t.device = 5 then 0 else t.device + 1
          devices := s.devices.set t.device (some after)
          ports := s.eachPort fun q =>
            if ∀ e ∈ dv.entries, e.isPending = false ∧ e.isInFlight = false then
              (q.post (.loadDone t.device failed)).answer (toSettleWaits t.device (settledAnswer failed))
            else q.post (.loadDone t.device failed) }) ∧
  (∀ (s : State) (t : Txn) (f : LinkFrame) (dv : Device) (failed : Nat),
      s.txn = some t → s.link = some f → t.kind = .probe → t.frame = 1 ∨ t.frame = 2 → t.discard = false →
      s.device t.device = some dv → failed = (dv.entries.filter fun e => decide (e.state = .failed)).length →
      (dv.state = .running ∨ dv.state = .diverged →
        exec (.probeReadEnd (sampleOf dv.params.marker)) s = .next
          { s with txn := none, link := none, devices := s.devices.set t.device (some { dv with losses := 0 }) }) ∧
      (dv.state = .suspect →
        exec (.probeReadEnd (sampleOf dv.params.marker)) s = .next
          { s with
            txn := none, link := none
            devices := s.devices.set t.device (some
              { dv with losses := 0, state := if failed = 0 then .running else .diverged })
            ports := s.eachPort fun q =>
              if ∀ e ∈ dv.entries, e.isPending = false ∧ e.isInFlight = false then
                q.answer (toSettleWaits t.device (settledAnswer failed))
              else q }))

/-- R82 to R85 with R105: a confirm or probe read that does not match, a parity error on the re-read included,
declares a loss. The count rises and DEVICE_LOST is posted; a claim on the device is broken: its staged slots are
emptied, the holder's late mark becomes BROKEN, CLAIM_BROKEN is posted to the holder alone, and the claim ends with
its deferred switch (State.claimEnded). Then, below the fence limit, a load begins (LoadsBeginWithEveryEntryPending);
at the limit the device is FENCED, its entries keep their states, DEVICE_FENCED is posted, its entry waits and then
its device-settle waits are answered FENCED, and its marks are cleared into the unapplied count, which calls for the
completion test where there was one (SelectProfileSwitchesEveryDevice). The transaction ends, and nothing else
changes. -/
def Obligations.MismatchDeclaresALoss : Prop :=
  ∀ (s lost broken u v : State) (t : Txn) (f : LinkFrame) (dv held : Device) (bits : SampledBits) (c : Instr)
    (put : Entry → Entry) (marks : Nat),
    s.txn = some t → s.link = some f → t.discard = false → s.device t.device = some dv →
    readResult bits ≠ some dv.params.marker →
    (t.kind = .marker ∧ (t.frame = 3 ∨ (t.frame = 2 ∧ readResult bits ≠ none)) ∧ c = .confirmReadEnd bits) ∨
      (t.kind = .probe ∧ (t.frame = 2 ∨ (t.frame = 1 ∧ readResult bits ≠ none)) ∧ c = .probeReadEnd bits ∧
        (dv.state = .running ∨ dv.state = .diverged ∨ dv.state = .suspect)) →
    (∀ x, put x = { x with stagedBase := none, staged1 := none, staged2 := none, staged3 := none }) →
    lost = { s with
             devices := s.devices.set t.device (some { dv with losses := dv.losses + 1 })
             ports := s.eachPort fun q => q.post (.deviceLost t.device) } →
    broken = (match s.claim t.device with
      | none => lost
      | some cl =>
        State.claimEnded
          { lost with
            late := s.late.set t.device ((s.late.get t.device).set cl.holder .broken)
            ports := lost.ports.set cl.holder ((lost.port cl.holder).post (.claimBroken t.device)) }
          t.device { dv with losses := dv.losses + 1 } put) →
    broken.device t.device = some held →
    marks = (held.entries.filter fun e => e.mark).length →
    u = (if dv.losses + 1 = dv.params.fenceLimit then
        { broken with
          devices := broken.devices.set t.device (some
            { held with
              state := .fenced, probeDue := false, probeRemaining := dv.params.probeInterval, probeElapsed := 0
              entries := held.entries.map fun e => { e with mark := false } })
          profiles := broken.profiles.counting marks
          ports := broken.eachPort fun q =>
            ((q.post (.deviceFenced t.device)).answer (toEntryWaitsOf t.device .fenced)).answer
              (toSettleWaits t.device fun _ => (.fenced, .none)) }
      else { broken with devices := broken.devices.set t.device (some held.beginLoad) }) →
    v = (if dv.losses + 1 = dv.params.fenceLimit ∧ marks ≠ 0 then u.completionTest else u) →
    exec c s = .next
      { v with
        txn := none, link := none
        cursor := if t.kind = .probe then s.cursor else if t.device = 5 then 0 else t.device + 1 } ∧
    held.losses = dv.losses + 1 ∧ held.params = dv.params ∧ held.entries.map Entry.register = dv.entries.map Entry.register

/-! ### Timers and lines -/

/-- R76: a running probe timer that runs out makes the probe due, the timer standing at 0; on a LOADING device the
probe is dropped and the timer reloaded. A timer that does not run (DORMANT, FENCED, probing off, a probe due, or the
hub not READY) does not run out. -/
def Obligations.ProbeTimersRunOut : Prop :=
  ∀ (s : State) (d : DevNum) (dv : Device), s.device d = some dv →
    (s.hubState = .ready → dv.params.probeInterval ≠ 0 → dv.probeDue = false →
      (dv.state = .running ∨ dv.state = .diverged ∨ dv.state = .suspect →
        exec (.probeTimerExpiry d.val) s = .next
          { s with
            devices := s.devices.set d (some { dv with probeDue := true, probeRemaining := 0, probeElapsed := 0 }) }) ∧
      (dv.state = .loading →
        exec (.probeTimerExpiry d.val) s = .next
          { s with
            devices := s.devices.set d (some
              { dv with probeDue := false, probeRemaining := dv.params.probeInterval, probeElapsed := 0 }) })) ∧
    (s.hubState ≠ .ready ∨ dv.params.probeInterval = 0 ∨ dv.probeDue = true ∨ dv.state = .dormant ∨ dv.state = .fenced →
      exec (.probeTimerExpiry d.val) s = .next s)

/-- R103 with R11 and R120: an expiry empties the device's staged slots and leaves its committed ones, removes the
claim, sets the holder's late mark EXPIRED, and posts CLAIM_EXPIRED to the holder alone; a deferred switch is then
applied (State.claimEnded). With no switch deferred it answers nothing, and no entry's state moves. Nothing else
changes. -/
def Obligations.ExpiredClaimsEnd : Prop :=
  ∀ (s v : State) (d : DevNum) (dv : Device) (c : Claim) (put : Entry → Entry) (eff : Profile),
    s.hubState = .ready → s.device d = some dv → s.claim d = some c →
    (∀ x, put x = { x with stagedBase := none, staged1 := none, staged2 := none, staged3 := none }) →
    eff = (if s.deferred d = true then s.profiles.target else dv.profile) →
    v = State.claimEnded
      { s with
        late := s.late.set d ((s.late.get d).set c.holder .expired)
        ports := s.ports.set c.holder ((s.port c.holder).post (.claimExpired d)) } d dv put →
    exec (.claimExpired d.val) s = .next v ∧
      v.devices = s.devices.set d (some (Device.reexamine (s.markerGranted d)
        { dv with profile := eff, entries := dv.entries.map (Entry.change put dv.profile eff dv.state) })) ∧
      v.claims = s.claims.set d none ∧ v.late = s.late.set d ((s.late.get d).set c.holder .expired) ∧
      v.deferred d = false ∧
      (s.deferred d = false →
        v.profiles = s.profiles ∧ v.port (otherPort c.holder) = s.port (otherPort c.holder) ∧
        v.port c.holder = (s.port c.holder).post (.claimExpired d) ∧
        ∀ e ∈ dv.entries, Entry.change put dv.profile eff dv.state e = put e)

/-- R111 and R112: a change of PSEL1:0 while the hub is READY cancels the candidate where the line level returns and
otherwise starts a candidate from time 0; in other hub states the level alone is recorded. A line change takes the
candidate as the line level; under REQUESTS, or where the level is the target, nothing more; under LINES it is a
switch to it (R116): every unclaimed device takes it, the waiters of a transition in flight are answered SUPERSEDED
and a new record is made (State.switched), and the completion test follows (SelectProfileSwitchesEveryDevice). That
the candidate time is 0 after a line change is the model's choice (log entry 26). -/
def Obligations.LinesAreDebouncedIntoSwitches : Prop :=
  ∀ (s : State) (level : Profile),
    (level = s.inputs.psel → exec (.pselChange level) s = .next s) ∧
    (level ≠ s.inputs.psel →
      (s.hubState ≠ .ready →
        exec (.pselChange level) s = .next { s with inputs := { s.inputs with psel := level } }) ∧
      (s.hubState = .ready →
        exec (.pselChange level) s = .next
          { s with
            inputs := { s.inputs with psel := level }
            profiles :=
              { s.profiles with
                candidate := if level = s.profiles.lineLevel then none else some level, candidateTime := 0 } })) ∧
    (s.hubState ≠ .ready ∨ s.profiles.candidate = none → exec .lineChange s = .next s) ∧
    (s.hubState = .ready → s.profiles.candidate = some level →
      (s.profiles.source = .requests ∨ level = s.profiles.target →
        exec .lineChange s = .next
          { s with profiles := { s.profiles with lineLevel := level, candidate := none, candidateTime := 0 } }) ∧
      (s.profiles.source = .lines → level ≠ s.profiles.target →
        ∀ v : State,
          v = (State.switched
            { s with profiles := { s.profiles with lineLevel := level, candidate := none, candidateTime := 0 } }
            level).completionTest →
          exec .lineChange s = .next v ∧
          v.profiles =
            { s.profiles with
              lineLevel := level, candidate := none, candidateTime := 0, target := level
              transition := v.profiles.transition } ∧
          ∀ d, v.device d = (s.device d).map fun dv =>
            Device.reexamine (s.markerGranted d)
              (if (s.claim d).isSome = true then dv
              else
                { dv with profile := level, entries := dv.entries.map (Entry.change id dv.profile level dv.state) })))

/-! ### The ports -/

/-- R148, R151, R152, R153 and R157: a START or STOP condition, after n bits of an unfinished byte, moves Port H to
ADDRESS or IDLE unless it is INACTIVE, and ends UNSYNCED (R159; that UNSYNCED stands beside IDLE is log entry 2). It
ends a read transaction, leaving the response whole; it ends a write transaction of this port, delivering the whole
bytes kept as a frame, marked broken where it was or where n is not 0, and delivering nothing where no whole byte was
kept. A full request queue keeps the frame COMPLETE. -/
def Obligations.BusConditionsEndTransactions : Prop :=
  ∀ (s : State) (n : Nat) (c : Instr) (ph : BusPhase), n < 8 →
    (c = .startCondition n ∧ ph = .address) ∨ (c = .stopCondition n ∧ ph = .idle) →
    (s.portH.phase = .inactive → exec c s = .next s) ∧
    (s.portH.phase = .idle ∨ s.portH.phase = .address →
      exec c s = .next { s with portH := { s.portH with phase := ph, unsynced := false } }) ∧
    (s.portH.phase = .read →
      exec c s = .next { s with portH := { s.portH with phase := ph, unsynced := false, cursor := .none, stopped := false } }) ∧
    (s.portH.phase = .write ∨ s.portH.phase = .skip →
      (s.portH.buffer = .empty ∨ s.portH.buffer.isComplete = true →
        exec c s = .next { s with portH := { s.portH with phase := ph, unsynced := false } }) ∧
      (∀ broken, s.portH.buffer = .assembling [] broken →
        exec c s = .next { s with portH := { s.portH with phase := ph, unsynced := false, buffer := .empty } }) ∧
      (∀ b bs broken, s.portH.buffer = .assembling (b :: bs) broken →
        ((s.port .h).requests.length < 4 →
          exec c s = .next
            { s with
              portH := { s.portH with phase := ph, unsynced := false, buffer := .empty }
              ports := s.ports.set .h
                { s.port .h with
                  requests := (s.port .h).requests ++ [{ bytes := b :: bs, broken := broken || decide (n ≠ 0) }] } }) ∧
        (4 ≤ (s.port .h).requests.length →
          exec c s = .next
            { s with
              portH :=
                { s.portH with
                  phase := ph, unsynced := false
                  buffer := .complete { bytes := b :: bs, broken := broken || decide (n ≠ 0) } } })))

/-- R149 and R155: in phase ADDRESS the port's own address is acknowledged for a read, which sets the cursor from the
response queue as it stands, and for a write unless a COMPLETE frame waits; another address is not acknowledged. R150
and R152: a data byte is kept and acknowledged up to the 16th; the 17th is refused and breaks the frame. That a write
begins a new frame in an ASSEMBLING buffer too, which only a hold in SKIP leaves, is the model's deduction (log entry
8), and so is the bit that holds what was driven on the ninth clock (log entry 20). -/
def Obligations.PortHReceivesBytes : Prop :=
  ∀ (s : State) (b : Byte),
    (s.portH.phase ≠ .address → exec (.addressByte b) s = .next s) ∧
    (s.portH.phase = .address →
      (b.toNat / 2 ≠ s.portH.address.toNat →
        exec (.addressByte b) s = .next { s with portH := { s.portH with phase := .idle, ack := false } }) ∧
      (b.toNat = 2 * s.portH.address.toNat + 1 →
        exec (.addressByte b) s = .next
          { s with
            portH :=
              { s.portH with
                phase := .read, stopped := false, ack := true
                cursor := if (s.port .h).responses = [] then .fill else .sending 0 } }) ∧
      (b.toNat = 2 * s.portH.address.toNat → s.portH.buffer.isComplete = true →
        exec (.addressByte b) s = .next { s with portH := { s.portH with phase := .skip, ack := false } }) ∧
      (b.toNat = 2 * s.portH.address.toNat → s.portH.buffer.isComplete = false →
        exec (.addressByte b) s = .next
          { s with portH := { s.portH with phase := .write, buffer := .assembling [] false, ack := true } })) ∧
    (∀ bytes broken, s.portH.phase = .write → s.portH.buffer = .assembling bytes broken →
      (bytes.length < 16 →
        exec (.writeDataByte b) s = .next
          { s with portH := { s.portH with buffer := .assembling (bytes ++ [b]) broken, ack := true } }) ∧
      (16 ≤ bytes.length →
        exec (.writeDataByte b) s = .next
          { s with portH := { s.portH with buffer := .assembling bytes true, phase := .skip, ack := false } })) ∧
    (s.portH.phase = .skip → exec (.writeDataByte b) s = .next { s with portH := { s.portH with ack := false } })

/-- R155 to R157: in a read transaction each byte of the head response advances the cursor; after a byte not
acknowledged the port releases SDA, sends nothing more and keeps the cursor, the bit that remembers it being the
model's (log entry 20). The acknowledge bit of the last byte, either way, removes the response and leaves FILL, in
which 0x00 is sent and nothing is removed. That 0x00 is sent, too, after a last byte that was not acknowledged is the
model's deduction (log entry 24). -/
def Obligations.PortHSendsTheHeadResponse : Prop :=
  ∀ (s : State) (ack : Bool), s.portH.phase = .read →
    (s.portH.stopped = true → s.sdaByte = none ∧ exec (.responseByteAck ack) s = .next s) ∧
    (s.portH.stopped = false → s.portH.cursor = .fill →
      s.sdaByte = some 0 ∧ exec (.responseByteAck ack) s = .next s) ∧
    (∀ n r rest, s.portH.stopped = false → s.portH.cursor = .sending n → (s.port .h).responses = r :: rest →
      (n + 1 < r.bytes.length →
        s.sdaByte = r.bytes[n]? ∧
        exec (.responseByteAck ack) s = .next
          { s with portH := { s.portH with cursor := .sending (n + 1), stopped := !ack } }) ∧
      (n + 1 = r.bytes.length →
        s.sdaByte = r.bytes[n]? ∧
        exec (.responseByteAck ack) s = .next
          { s with
            portH := { s.portH with cursor := .fill }
            ports := s.ports.set .h { s.port .h with responses := rest } }))

/-- R163 and R164: an LFRM# assertion opens a frame in IDLE, holds it while a COMPLETE frame waits, and is held over
in ENDING, where the recorded level of LFRM# holds it (the model's deduction, log entry 22). In OPEN, DISCARD, HELD
and HELD_BROKEN, where R163 says that it cannot occur, it records the level alone (the model's choice, log entry 13).
A strobe is latched in an open frame with the latch EMPTY; against a FULL latch it breaks the frame, and against a
held frame it makes it HELD_BROKEN; elsewhere it is ignored or discarded. -/
def Obligations.PortLOpensFramesAndLatchesBytes : Prop :=
  ∀ (s : State) (data : Byte),
    (s.portL.framing ≠ .idle → exec .lfrmAssert s = .next { s with inputs := { s.inputs with lfrm := true } }) ∧
    (s.portL.framing = .idle → s.portL.buffer = .empty →
      exec .lfrmAssert s = .next
        { s with
          inputs := { s.inputs with lfrm := true }
          portL := { s.portL with framing := .opened, buffer := .assembling [] false } }) ∧
    (s.portL.framing = .idle → s.portL.buffer.isComplete = true →
      exec .lfrmAssert s = .next
        { s with inputs := { s.inputs with lfrm := true }, portL := { s.portL with framing := .held } }) ∧
    (s.portL.framing = .opened → s.portL.latch = none →
      exec (.lstbFall data) s = .next
        { s with
          portL :=
            { s.portL with
              latch := some (if s.hubState = .ready ∧ s.inputs.lack = true then s.portL.outLatch else data) } } ∧
      ∀ t, exec (.lstbFall data) s = .next t → t.libf = true) ∧
    (∀ b bytes broken, s.portL.latch = some b → s.portL.buffer = .assembling bytes broken →
      (s.portL.framing = .opened →
        exec (.lstbFall data) s = .next
          { s with portL := { s.portL with buffer := .assembling bytes true, framing := .discard } }) ∧
      (s.portL.framing = .ending →
        exec (.lstbFall data) s = .next { s with portL := { s.portL with buffer := .assembling bytes true } })) ∧
    (s.portL.framing = .held →
      exec (.lstbFall data) s = .next { s with portL := { s.portL with framing := .heldBroken } }) ∧
    (s.portL.framing ∈ [.inactive, .unsynced, .idle, .discard, .heldBroken] → exec (.lstbFall data) s = .next s)

/-- R165 to R167: a latched byte is taken into the frame up to the 16th, and the 17th breaks it. LFRM# deasserted with
the latch FULL leaves the frame ENDING, to end at that take; with the latch EMPTY the frame ends: ignored with no byte
kept, else delivered, or kept COMPLETE by a full queue. A held frame and the UNSYNCED state end in IDLE. An assertion
of LFRM# held over in ENDING is acted on as the frame ends; that the recorded level of LFRM# holds it is the model's
deduction (log entry 22). -/
def Obligations.PortLTakesBytesAndEndsFrames : Prop :=
  ∀ s : State,
    (s.portL.framing = .opened ∨ s.portL.framing = .discard →
      (∀ b, s.portL.latch = some b →
        exec .lfrmDeassert s = .next
          { s with inputs := { s.inputs with lfrm := false }, portL := { s.portL with framing := .ending } }) ∧
      (∀ broken, s.portL.latch = none → s.portL.buffer = .assembling [] broken →
        exec .lfrmDeassert s = .next
          { s with
            inputs := { s.inputs with lfrm := false }
            portL := { s.portL with framing := .idle, buffer := .empty } }) ∧
      (∀ a bytes broken, s.portL.latch = none → s.portL.buffer = .assembling (a :: bytes) broken →
        ((s.port .l).requests.length < 4 →
          exec .lfrmDeassert s = .next
            { s with
              inputs := { s.inputs with lfrm := false }
              portL := { s.portL with framing := .idle, buffer := .empty }
              ports := s.ports.set .l
                { s.port .l with requests := (s.port .l).requests ++ [{ bytes := a :: bytes, broken := broken }] } }) ∧
        (4 ≤ (s.port .l).requests.length →
          exec .lfrmDeassert s = .next
            { s with
              inputs := { s.inputs with lfrm := false }
              portL := { s.portL with framing := .idle, buffer := .complete { bytes := a :: bytes, broken := broken } } }))) ∧
    (s.portL.framing = .held ∨ s.portL.framing = .heldBroken ∨ s.portL.framing = .unsynced →
      exec .lfrmDeassert s = .next
        { s with inputs := { s.inputs with lfrm := false }, portL := { s.portL with framing := .idle } }) ∧
    (s.portL.framing = .ending → exec .lfrmDeassert s = .next { s with inputs := { s.inputs with lfrm := false } }) ∧
    (s.hubState ≠ .ready ∨ s.portL.latch = none → exec .inboundByteTake s = .next s) ∧
    (∀ b bytes broken, s.hubState = .ready → s.portL.latch = some b → s.portL.buffer = .assembling bytes broken →
      (s.portL.framing ≠ .ending → bytes.length < 16 →
        exec .inboundByteTake s = .next
          { s with portL := { s.portL with latch := none, buffer := .assembling (bytes ++ [b]) broken } }) ∧
      (s.portL.framing ≠ .ending → 16 ≤ bytes.length →
        exec .inboundByteTake s = .next
          { s with
            portL :=
              { s.portL with
                latch := none, buffer := .assembling bytes true
                framing := if s.portL.framing = .opened then .discard else s.portL.framing } }) ∧
      (s.portL.framing = .ending → ∀ f : Frame,
        f = (if bytes.length < 16 then { bytes := bytes ++ [b], broken := broken } else { bytes := bytes, broken := true }) →
        ((s.port .l).requests.length < 4 →
          exec .inboundByteTake s = .next
            { s with
              portL :=
                { s.portL with
                  latch := none
                  framing := if s.inputs.lfrm then .opened else .idle
                  buffer := if s.inputs.lfrm then .assembling [] false else .empty }
              ports := s.ports.set .l { s.port .l with requests := (s.port .l).requests ++ [f] } }) ∧
        (4 ≤ (s.port .l).requests.length →
          exec .inboundByteTake s = .next
            { s with
              portL :=
                { s.portL with
                  latch := none, framing := if s.inputs.lfrm then .held else .idle, buffer := .complete f } })))

/-- R162, R168 and R169: with outbound full no and the hub READY, the head response's next byte is loaded and LOBF
asserted; LACK# asserted changes no other state; its rising edge consumes the byte, and after the last byte removes
the response. With outbound full no, or outside READY, the edge changes nothing but the level. -/
def Obligations.PortLSendsTheHeadResponse : Prop :=
  ∀ s : State,
    (s.hubState ≠ .ready ∨ s.portL.outFull = true ∨ (s.port .l).responses = [] →
      exec .outboundLatchLoad s = .next s) ∧
    (∀ r rest k b, s.hubState = .ready → s.portL.outFull = false → (s.port .l).responses = r :: rest →
      k = s.portL.cursor.getD 0 → r.bytes[k]? = some b →
      exec .outboundLatchLoad s = .next
          { s with portL := { s.portL with outLatch := b, outFull := true, cursor := some k } } ∧
        ∀ t, exec .outboundLatchLoad s = .next t → t.lobf = true ∧ (s.inputs.lack = true → t.ldDriven = some b)) ∧
    exec .lackAssert s = .next { s with inputs := { s.inputs with lack := true } } ∧
    (s.hubState ≠ .ready ∨ s.portL.outFull = false →
      exec .lackRise s = .next { s with inputs := { s.inputs with lack := false } }) ∧
    (∀ r rest k, s.hubState = .ready → s.portL.outFull = true → (s.port .l).responses = r :: rest →
      s.portL.cursor = some k →
      (k + 1 < r.bytes.length →
        exec .lackRise s = .next
          { s with
            inputs := { s.inputs with lack := false }
            portL := { s.portL with outFull := false, cursor := some (k + 1) } }) ∧
      (k + 1 = r.bytes.length →
        exec .lackRise s = .next
          { s with
            inputs := { s.inputs with lack := false }
            portL := { s.portL with outFull := false, cursor := none }
            ports := s.ports.set .l { s.port .l with responses := rest } }))

end
end

