-- ==== Sys2Proof/Laws/State.lean ====
section
/-! SUPPORT. The small lemmas of the record updates: for each named update of the state, what every field holds after it. -/

namespace Sys2Proof.Machine

/-! ### Tables by device and by port -/

theorem PerDevice.get_set {α : Type} (t : PerDevice α) (d e : DevNum) (a : α) :
    (t.set d a).get e = if e = d then a else t.get e := by
  match d, e with
  | ⟨0, _⟩, ⟨0, _⟩ | ⟨0, _⟩, ⟨1, _⟩ | ⟨0, _⟩, ⟨2, _⟩ | ⟨0, _⟩, ⟨3, _⟩ | ⟨0, _⟩, ⟨4, _⟩ | ⟨0, _⟩, ⟨5, _⟩
  | ⟨1, _⟩, ⟨0, _⟩ | ⟨1, _⟩, ⟨1, _⟩ | ⟨1, _⟩, ⟨2, _⟩ | ⟨1, _⟩, ⟨3, _⟩ | ⟨1, _⟩, ⟨4, _⟩ | ⟨1, _⟩, ⟨5, _⟩
  | ⟨2, _⟩, ⟨0, _⟩ | ⟨2, _⟩, ⟨1, _⟩ | ⟨2, _⟩, ⟨2, _⟩ | ⟨2, _⟩, ⟨3, _⟩ | ⟨2, _⟩, ⟨4, _⟩ | ⟨2, _⟩, ⟨5, _⟩
  | ⟨3, _⟩, ⟨0, _⟩ | ⟨3, _⟩, ⟨1, _⟩ | ⟨3, _⟩, ⟨2, _⟩ | ⟨3, _⟩, ⟨3, _⟩ | ⟨3, _⟩, ⟨4, _⟩ | ⟨3, _⟩, ⟨5, _⟩
  | ⟨4, _⟩, ⟨0, _⟩ | ⟨4, _⟩, ⟨1, _⟩ | ⟨4, _⟩, ⟨2, _⟩ | ⟨4, _⟩, ⟨3, _⟩ | ⟨4, _⟩, ⟨4, _⟩ | ⟨4, _⟩, ⟨5, _⟩
  | ⟨5, _⟩, ⟨0, _⟩ | ⟨5, _⟩, ⟨1, _⟩ | ⟨5, _⟩, ⟨2, _⟩ | ⟨5, _⟩, ⟨3, _⟩ | ⟨5, _⟩, ⟨4, _⟩ | ⟨5, _⟩, ⟨5, _⟩ => rfl

@[simp] theorem PerDevice.get_set_self {α : Type} (t : PerDevice α) (d : DevNum) (a : α) : (t.set d a).get d = a := by
  simp [PerDevice.get_set]

theorem PerDevice.get_set_ne {α : Type} (t : PerDevice α) {d e : DevNum} (h : e ≠ d) (a : α) :
    (t.set d a).get e = t.get e := by
  simp [PerDevice.get_set, h]

@[simp] theorem PerDevice.get_ofFn {α : Type} (f : DevNum → α) (d : DevNum) : (PerDevice.ofFn f).get d = f d := by
  match d with
  | ⟨0, _⟩ | ⟨1, _⟩ | ⟨2, _⟩ | ⟨3, _⟩ | ⟨4, _⟩ | ⟨5, _⟩ => rfl

@[simp] theorem PerDevice.get_const {α : Type} (a : α) (d : DevNum) : (PerDevice.const a).get d = a := by
  match d with
  | ⟨0, _⟩ | ⟨1, _⟩ | ⟨2, _⟩ | ⟨3, _⟩ | ⟨4, _⟩ | ⟨5, _⟩ => rfl

/-- A table is known by its rows. -/
theorem PerDevice.ext_get {α : Type} {t u : PerDevice α} (h : ∀ d, t.get d = u.get d) : t = u := by
  cases t
  cases u
  have h0 := h 0
  have h1 := h 1
  have h2 := h 2
  have h3 := h 3
  have h4 := h 4
  have h5 := h 5
  simp [PerDevice.get] at h0 h1 h2 h3 h4 h5
  simp [h0, h1, h2, h3, h4, h5]

@[simp] theorem PerPort.get_set_self {α : Type} (t : PerPort α) (p : Port) (a : α) : (t.set p a).get p = a := by
  cases p <;> rfl

@[simp] theorem PerPort.get_set_other {α : Type} (t : PerPort α) (p : Port) (a : α) :
    (t.set p a).get (otherPort p) = t.get (otherPort p) := by
  cases p <;> rfl

theorem PerPort.get_set {α : Type} (t : PerPort α) (p q : Port) (a : α) :
    (t.set p a).get q = if q = p then a else t.get q := by
  cases p <;> cases q <;> rfl

@[simp] theorem PerPort.set_set {α : Type} (t : PerPort α) (p : Port) (a b : α) : (t.set p a).set p b = t.set p b := by
  cases p <;> rfl

/-! ### setDevice -/

@[simp] theorem State.setDevice_hubState (s : State) (d : DevNum) (dv : Device) :
    (s.setDevice d dv).hubState = s.hubState := rfl
@[simp] theorem State.setDevice_origin (s : State) (d : DevNum) (dv : Device) :
    (s.setDevice d dv).origin = s.origin := rfl
@[simp] theorem State.setDevice_inputs (s : State) (d : DevNum) (dv : Device) :
    (s.setDevice d dv).inputs = s.inputs := rfl
@[simp] theorem State.setDevice_devices (s : State) (d : DevNum) (dv : Device) :
    (s.setDevice d dv).devices = s.devices.set d (some dv) := rfl
@[simp] theorem State.setDevice_cursor (s : State) (d : DevNum) (dv : Device) :
    (s.setDevice d dv).cursor = s.cursor := rfl
@[simp] theorem State.setDevice_claims (s : State) (d : DevNum) (dv : Device) :
    (s.setDevice d dv).claims = s.claims := rfl
@[simp] theorem State.setDevice_late (s : State) (d : DevNum) (dv : Device) : (s.setDevice d dv).late = s.late := rfl
@[simp] theorem State.setDevice_profiles (s : State) (d : DevNum) (dv : Device) :
    (s.setDevice d dv).profiles = s.profiles := rfl
@[simp] theorem State.setDevice_txn (s : State) (d : DevNum) (dv : Device) : (s.setDevice d dv).txn = s.txn := rfl
@[simp] theorem State.setDevice_link (s : State) (d : DevNum) (dv : Device) : (s.setDevice d dv).link = s.link := rfl
@[simp] theorem State.setDevice_rotation (s : State) (d : DevNum) (dv : Device) :
    (s.setDevice d dv).rotation = s.rotation := rfl
@[simp] theorem State.setDevice_ports (s : State) (d : DevNum) (dv : Device) :
    (s.setDevice d dv).ports = s.ports := rfl
@[simp] theorem State.setDevice_portRotation (s : State) (d : DevNum) (dv : Device) :
    (s.setDevice d dv).portRotation = s.portRotation := rfl
@[simp] theorem State.setDevice_portH (s : State) (d : DevNum) (dv : Device) :
    (s.setDevice d dv).portH = s.portH := rfl
@[simp] theorem State.setDevice_portL (s : State) (d : DevNum) (dv : Device) :
    (s.setDevice d dv).portL = s.portL := rfl
@[simp] theorem State.setDevice_bankA (s : State) (d : DevNum) (dv : Device) :
    (s.setDevice d dv).bankA = s.bankA := rfl
@[simp] theorem State.setDevice_bankB (s : State) (d : DevNum) (dv : Device) :
    (s.setDevice d dv).bankB = s.bankB := rfl
@[simp] theorem State.setDevice_save (s : State) (d : DevNum) (dv : Device) : (s.setDevice d dv).save = s.save := rfl
@[simp] theorem State.setDevice_pending (s : State) (d : DevNum) (dv : Device) :
    (s.setDevice d dv).pending = s.pending := rfl

/-! ### removeDevice -/

@[simp] theorem State.removeDevice_hubState (s : State) (d : DevNum) : (s.removeDevice d).hubState = s.hubState := rfl
@[simp] theorem State.removeDevice_origin (s : State) (d : DevNum) : (s.removeDevice d).origin = s.origin := rfl
@[simp] theorem State.removeDevice_inputs (s : State) (d : DevNum) : (s.removeDevice d).inputs = s.inputs := rfl
@[simp] theorem State.removeDevice_devices (s : State) (d : DevNum) :
    (s.removeDevice d).devices = s.devices.set d none := rfl
@[simp] theorem State.removeDevice_cursor (s : State) (d : DevNum) : (s.removeDevice d).cursor = s.cursor := rfl
@[simp] theorem State.removeDevice_claims (s : State) (d : DevNum) : (s.removeDevice d).claims = s.claims := rfl
@[simp] theorem State.removeDevice_late (s : State) (d : DevNum) : (s.removeDevice d).late = s.late := rfl
@[simp] theorem State.removeDevice_profiles (s : State) (d : DevNum) : (s.removeDevice d).profiles = s.profiles := rfl
@[simp] theorem State.removeDevice_txn (s : State) (d : DevNum) : (s.removeDevice d).txn = s.txn := rfl
@[simp] theorem State.removeDevice_link (s : State) (d : DevNum) : (s.removeDevice d).link = s.link := rfl
@[simp] theorem State.removeDevice_rotation (s : State) (d : DevNum) : (s.removeDevice d).rotation = s.rotation := rfl
@[simp] theorem State.removeDevice_ports (s : State) (d : DevNum) : (s.removeDevice d).ports = s.ports := rfl
@[simp] theorem State.removeDevice_portRotation (s : State) (d : DevNum) :
    (s.removeDevice d).portRotation = s.portRotation := rfl
@[simp] theorem State.removeDevice_portH (s : State) (d : DevNum) : (s.removeDevice d).portH = s.portH := rfl
@[simp] theorem State.removeDevice_portL (s : State) (d : DevNum) : (s.removeDevice d).portL = s.portL := rfl
@[simp] theorem State.removeDevice_bankA (s : State) (d : DevNum) : (s.removeDevice d).bankA = s.bankA := rfl
@[simp] theorem State.removeDevice_bankB (s : State) (d : DevNum) : (s.removeDevice d).bankB = s.bankB := rfl
@[simp] theorem State.removeDevice_save (s : State) (d : DevNum) : (s.removeDevice d).save = s.save := rfl
@[simp] theorem State.removeDevice_pending (s : State) (d : DevNum) : (s.removeDevice d).pending = s.pending := rfl

/-! ### setClaim -/

@[simp] theorem State.setClaim_hubState (s : State) (d : DevNum) (c : Option Claim) :
    (s.setClaim d c).hubState = s.hubState := rfl
@[simp] theorem State.setClaim_origin (s : State) (d : DevNum) (c : Option Claim) :
    (s.setClaim d c).origin = s.origin := rfl
@[simp] theorem State.setClaim_inputs (s : State) (d : DevNum) (c : Option Claim) :
    (s.setClaim d c).inputs = s.inputs := rfl
@[simp] theorem State.setClaim_devices (s : State) (d : DevNum) (c : Option Claim) :
    (s.setClaim d c).devices = s.devices := rfl
@[simp] theorem State.setClaim_cursor (s : State) (d : DevNum) (c : Option Claim) :
    (s.setClaim d c).cursor = s.cursor := rfl
@[simp] theorem State.setClaim_claims (s : State) (d : DevNum) (c : Option Claim) :
    (s.setClaim d c).claims = s.claims.set d c := rfl
@[simp] theorem State.setClaim_late (s : State) (d : DevNum) (c : Option Claim) :
    (s.setClaim d c).late = s.late := rfl
@[simp] theorem State.setClaim_profiles (s : State) (d : DevNum) (c : Option Claim) :
    (s.setClaim d c).profiles = s.profiles := rfl
@[simp] theorem State.setClaim_txn (s : State) (d : DevNum) (c : Option Claim) : (s.setClaim d c).txn = s.txn := rfl
@[simp] theorem State.setClaim_link (s : State) (d : DevNum) (c : Option Claim) :
    (s.setClaim d c).link = s.link := rfl
@[simp] theorem State.setClaim_rotation (s : State) (d : DevNum) (c : Option Claim) :
    (s.setClaim d c).rotation = s.rotation := rfl
@[simp] theorem State.setClaim_ports (s : State) (d : DevNum) (c : Option Claim) :
    (s.setClaim d c).ports = s.ports := rfl
@[simp] theorem State.setClaim_portRotation (s : State) (d : DevNum) (c : Option Claim) :
    (s.setClaim d c).portRotation = s.portRotation := rfl
@[simp] theorem State.setClaim_portH (s : State) (d : DevNum) (c : Option Claim) :
    (s.setClaim d c).portH = s.portH := rfl
@[simp] theorem State.setClaim_portL (s : State) (d : DevNum) (c : Option Claim) :
    (s.setClaim d c).portL = s.portL := rfl
@[simp] theorem State.setClaim_bankA (s : State) (d : DevNum) (c : Option Claim) :
    (s.setClaim d c).bankA = s.bankA := rfl
@[simp] theorem State.setClaim_bankB (s : State) (d : DevNum) (c : Option Claim) :
    (s.setClaim d c).bankB = s.bankB := rfl
@[simp] theorem State.setClaim_save (s : State) (d : DevNum) (c : Option Claim) :
    (s.setClaim d c).save = s.save := rfl
@[simp] theorem State.setClaim_pending (s : State) (d : DevNum) (c : Option Claim) :
    (s.setClaim d c).pending = s.pending := rfl

/-! ### setLate -/

@[simp] theorem State.setLate_hubState (s : State) (d : DevNum) (p : Port) (m : LateMark) :
    (s.setLate d p m).hubState = s.hubState := rfl
@[simp] theorem State.setLate_origin (s : State) (d : DevNum) (p : Port) (m : LateMark) :
    (s.setLate d p m).origin = s.origin := rfl
@[simp] theorem State.setLate_inputs (s : State) (d : DevNum) (p : Port) (m : LateMark) :
    (s.setLate d p m).inputs = s.inputs := rfl
@[simp] theorem State.setLate_devices (s : State) (d : DevNum) (p : Port) (m : LateMark) :
    (s.setLate d p m).devices = s.devices := rfl
@[simp] theorem State.setLate_cursor (s : State) (d : DevNum) (p : Port) (m : LateMark) :
    (s.setLate d p m).cursor = s.cursor := rfl
@[simp] theorem State.setLate_claims (s : State) (d : DevNum) (p : Port) (m : LateMark) :
    (s.setLate d p m).claims = s.claims := rfl
@[simp] theorem State.setLate_late (s : State) (d : DevNum) (p : Port) (m : LateMark) :
    (s.setLate d p m).late = s.late.set d ((s.late.get d).set p m) := rfl
@[simp] theorem State.setLate_profiles (s : State) (d : DevNum) (p : Port) (m : LateMark) :
    (s.setLate d p m).profiles = s.profiles := rfl
@[simp] theorem State.setLate_txn (s : State) (d : DevNum) (p : Port) (m : LateMark) :
    (s.setLate d p m).txn = s.txn := rfl
@[simp] theorem State.setLate_link (s : State) (d : DevNum) (p : Port) (m : LateMark) :
    (s.setLate d p m).link = s.link := rfl
@[simp] theorem State.setLate_rotation (s : State) (d : DevNum) (p : Port) (m : LateMark) :
    (s.setLate d p m).rotation = s.rotation := rfl
@[simp] theorem State.setLate_ports (s : State) (d : DevNum) (p : Port) (m : LateMark) :
    (s.setLate d p m).ports = s.ports := rfl
@[simp] theorem State.setLate_portRotation (s : State) (d : DevNum) (p : Port) (m : LateMark) :
    (s.setLate d p m).portRotation = s.portRotation := rfl
@[simp] theorem State.setLate_portH (s : State) (d : DevNum) (p : Port) (m : LateMark) :
    (s.setLate d p m).portH = s.portH := rfl
@[simp] theorem State.setLate_portL (s : State) (d : DevNum) (p : Port) (m : LateMark) :
    (s.setLate d p m).portL = s.portL := rfl
@[simp] theorem State.setLate_bankA (s : State) (d : DevNum) (p : Port) (m : LateMark) :
    (s.setLate d p m).bankA = s.bankA := rfl
@[simp] theorem State.setLate_bankB (s : State) (d : DevNum) (p : Port) (m : LateMark) :
    (s.setLate d p m).bankB = s.bankB := rfl
@[simp] theorem State.setLate_save (s : State) (d : DevNum) (p : Port) (m : LateMark) :
    (s.setLate d p m).save = s.save := rfl
@[simp] theorem State.setLate_pending (s : State) (d : DevNum) (p : Port) (m : LateMark) :
    (s.setLate d p m).pending = s.pending := rfl

/-! ### clearLate -/

@[simp] theorem State.clearLate_hubState (s : State) (d : DevNum) : (s.clearLate d).hubState = s.hubState := rfl
@[simp] theorem State.clearLate_origin (s : State) (d : DevNum) : (s.clearLate d).origin = s.origin := rfl
@[simp] theorem State.clearLate_inputs (s : State) (d : DevNum) : (s.clearLate d).inputs = s.inputs := rfl
@[simp] theorem State.clearLate_devices (s : State) (d : DevNum) : (s.clearLate d).devices = s.devices := rfl
@[simp] theorem State.clearLate_cursor (s : State) (d : DevNum) : (s.clearLate d).cursor = s.cursor := rfl
@[simp] theorem State.clearLate_claims (s : State) (d : DevNum) : (s.clearLate d).claims = s.claims := rfl
@[simp] theorem State.clearLate_late (s : State) (d : DevNum) :
    (s.clearLate d).late = s.late.set d ⟨.none, .none⟩ := rfl
@[simp] theorem State.clearLate_profiles (s : State) (d : DevNum) : (s.clearLate d).profiles = s.profiles := rfl
@[simp] theorem State.clearLate_txn (s : State) (d : DevNum) : (s.clearLate d).txn = s.txn := rfl
@[simp] theorem State.clearLate_link (s : State) (d : DevNum) : (s.clearLate d).link = s.link := rfl
@[simp] theorem State.clearLate_rotation (s : State) (d : DevNum) : (s.clearLate d).rotation = s.rotation := rfl
@[simp] theorem State.clearLate_ports (s : State) (d : DevNum) : (s.clearLate d).ports = s.ports := rfl
@[simp] theorem State.clearLate_portRotation (s : State) (d : DevNum) :
    (s.clearLate d).portRotation = s.portRotation := rfl
@[simp] theorem State.clearLate_portH (s : State) (d : DevNum) : (s.clearLate d).portH = s.portH := rfl
@[simp] theorem State.clearLate_portL (s : State) (d : DevNum) : (s.clearLate d).portL = s.portL := rfl
@[simp] theorem State.clearLate_bankA (s : State) (d : DevNum) : (s.clearLate d).bankA = s.bankA := rfl
@[simp] theorem State.clearLate_bankB (s : State) (d : DevNum) : (s.clearLate d).bankB = s.bankB := rfl
@[simp] theorem State.clearLate_save (s : State) (d : DevNum) : (s.clearLate d).save = s.save := rfl
@[simp] theorem State.clearLate_pending (s : State) (d : DevNum) : (s.clearLate d).pending = s.pending := rfl

/-! ### modPort -/

@[simp] theorem State.modPort_hubState (s : State) (p : Port) (f : PortSide → PortSide) :
    (s.modPort p f).hubState = s.hubState := rfl
@[simp] theorem State.modPort_origin (s : State) (p : Port) (f : PortSide → PortSide) :
    (s.modPort p f).origin = s.origin := rfl
@[simp] theorem State.modPort_inputs (s : State) (p : Port) (f : PortSide → PortSide) :
    (s.modPort p f).inputs = s.inputs := rfl
@[simp] theorem State.modPort_devices (s : State) (p : Port) (f : PortSide → PortSide) :
    (s.modPort p f).devices = s.devices := rfl
@[simp] theorem State.modPort_cursor (s : State) (p : Port) (f : PortSide → PortSide) :
    (s.modPort p f).cursor = s.cursor := rfl
@[simp] theorem State.modPort_claims (s : State) (p : Port) (f : PortSide → PortSide) :
    (s.modPort p f).claims = s.claims := rfl
@[simp] theorem State.modPort_late (s : State) (p : Port) (f : PortSide → PortSide) :
    (s.modPort p f).late = s.late := rfl
@[simp] theorem State.modPort_profiles (s : State) (p : Port) (f : PortSide → PortSide) :
    (s.modPort p f).profiles = s.profiles := rfl
@[simp] theorem State.modPort_txn (s : State) (p : Port) (f : PortSide → PortSide) :
    (s.modPort p f).txn = s.txn := rfl
@[simp] theorem State.modPort_link (s : State) (p : Port) (f : PortSide → PortSide) :
    (s.modPort p f).link = s.link := rfl
@[simp] theorem State.modPort_rotation (s : State) (p : Port) (f : PortSide → PortSide) :
    (s.modPort p f).rotation = s.rotation := rfl
@[simp] theorem State.modPort_ports (s : State) (p : Port) (f : PortSide → PortSide) :
    (s.modPort p f).ports = s.ports.set p (f (s.ports.get p)) := rfl
@[simp] theorem State.modPort_portRotation (s : State) (p : Port) (f : PortSide → PortSide) :
    (s.modPort p f).portRotation = s.portRotation := rfl
@[simp] theorem State.modPort_portH (s : State) (p : Port) (f : PortSide → PortSide) :
    (s.modPort p f).portH = s.portH := rfl
@[simp] theorem State.modPort_portL (s : State) (p : Port) (f : PortSide → PortSide) :
    (s.modPort p f).portL = s.portL := rfl
@[simp] theorem State.modPort_bankA (s : State) (p : Port) (f : PortSide → PortSide) :
    (s.modPort p f).bankA = s.bankA := rfl
@[simp] theorem State.modPort_bankB (s : State) (p : Port) (f : PortSide → PortSide) :
    (s.modPort p f).bankB = s.bankB := rfl
@[simp] theorem State.modPort_save (s : State) (p : Port) (f : PortSide → PortSide) :
    (s.modPort p f).save = s.save := rfl
@[simp] theorem State.modPort_pending (s : State) (p : Port) (f : PortSide → PortSide) :
    (s.modPort p f).pending = s.pending := rfl

/-! ### respond -/

@[simp] theorem State.respond_hubState (s : State) (p : Port) (tag : Byte) (o : OutcomeCode) (pl : Payload) :
    (s.respond p tag o pl).hubState = s.hubState := rfl
@[simp] theorem State.respond_origin (s : State) (p : Port) (tag : Byte) (o : OutcomeCode) (pl : Payload) :
    (s.respond p tag o pl).origin = s.origin := rfl
@[simp] theorem State.respond_inputs (s : State) (p : Port) (tag : Byte) (o : OutcomeCode) (pl : Payload) :
    (s.respond p tag o pl).inputs = s.inputs := rfl
@[simp] theorem State.respond_devices (s : State) (p : Port) (tag : Byte) (o : OutcomeCode) (pl : Payload) :
    (s.respond p tag o pl).devices = s.devices := rfl
@[simp] theorem State.respond_cursor (s : State) (p : Port) (tag : Byte) (o : OutcomeCode) (pl : Payload) :
    (s.respond p tag o pl).cursor = s.cursor := rfl
@[simp] theorem State.respond_claims (s : State) (p : Port) (tag : Byte) (o : OutcomeCode) (pl : Payload) :
    (s.respond p tag o pl).claims = s.claims := rfl
@[simp] theorem State.respond_late (s : State) (p : Port) (tag : Byte) (o : OutcomeCode) (pl : Payload) :
    (s.respond p tag o pl).late = s.late := rfl
@[simp] theorem State.respond_profiles (s : State) (p : Port) (tag : Byte) (o : OutcomeCode) (pl : Payload) :
    (s.respond p tag o pl).profiles = s.profiles := rfl
@[simp] theorem State.respond_txn (s : State) (p : Port) (tag : Byte) (o : OutcomeCode) (pl : Payload) :
    (s.respond p tag o pl).txn = s.txn := rfl
@[simp] theorem State.respond_link (s : State) (p : Port) (tag : Byte) (o : OutcomeCode) (pl : Payload) :
    (s.respond p tag o pl).link = s.link := rfl
@[simp] theorem State.respond_rotation (s : State) (p : Port) (tag : Byte) (o : OutcomeCode) (pl : Payload) :
    (s.respond p tag o pl).rotation = s.rotation := rfl
@[simp] theorem State.respond_portRotation (s : State) (p : Port) (tag : Byte) (o : OutcomeCode) (pl : Payload) :
    (s.respond p tag o pl).portRotation = s.portRotation := rfl
@[simp] theorem State.respond_portH (s : State) (p : Port) (tag : Byte) (o : OutcomeCode) (pl : Payload) :
    (s.respond p tag o pl).portH = s.portH := rfl
@[simp] theorem State.respond_portL (s : State) (p : Port) (tag : Byte) (o : OutcomeCode) (pl : Payload) :
    (s.respond p tag o pl).portL = s.portL := rfl
@[simp] theorem State.respond_bankA (s : State) (p : Port) (tag : Byte) (o : OutcomeCode) (pl : Payload) :
    (s.respond p tag o pl).bankA = s.bankA := rfl
@[simp] theorem State.respond_bankB (s : State) (p : Port) (tag : Byte) (o : OutcomeCode) (pl : Payload) :
    (s.respond p tag o pl).bankB = s.bankB := rfl
@[simp] theorem State.respond_save (s : State) (p : Port) (tag : Byte) (o : OutcomeCode) (pl : Payload) :
    (s.respond p tag o pl).save = s.save := rfl
@[simp] theorem State.respond_pending (s : State) (p : Port) (tag : Byte) (o : OutcomeCode) (pl : Payload) :
    (s.respond p tag o pl).pending = s.pending := rfl

/-! ### await -/

@[simp] theorem State.await_hubState (s : State) (p : Port) (o : Outstanding) :
    (s.await p o).hubState = s.hubState := rfl
@[simp] theorem State.await_origin (s : State) (p : Port) (o : Outstanding) : (s.await p o).origin = s.origin := rfl
@[simp] theorem State.await_inputs (s : State) (p : Port) (o : Outstanding) : (s.await p o).inputs = s.inputs := rfl
@[simp] theorem State.await_devices (s : State) (p : Port) (o : Outstanding) :
    (s.await p o).devices = s.devices := rfl
@[simp] theorem State.await_cursor (s : State) (p : Port) (o : Outstanding) : (s.await p o).cursor = s.cursor := rfl
@[simp] theorem State.await_claims (s : State) (p : Port) (o : Outstanding) : (s.await p o).claims = s.claims := rfl
@[simp] theorem State.await_late (s : State) (p : Port) (o : Outstanding) : (s.await p o).late = s.late := rfl
@[simp] theorem State.await_profiles (s : State) (p : Port) (o : Outstanding) :
    (s.await p o).profiles = s.profiles := rfl
@[simp] theorem State.await_txn (s : State) (p : Port) (o : Outstanding) : (s.await p o).txn = s.txn := rfl
@[simp] theorem State.await_link (s : State) (p : Port) (o : Outstanding) : (s.await p o).link = s.link := rfl
@[simp] theorem State.await_rotation (s : State) (p : Port) (o : Outstanding) :
    (s.await p o).rotation = s.rotation := rfl
@[simp] theorem State.await_portRotation (s : State) (p : Port) (o : Outstanding) :
    (s.await p o).portRotation = s.portRotation := rfl
@[simp] theorem State.await_portH (s : State) (p : Port) (o : Outstanding) : (s.await p o).portH = s.portH := rfl
@[simp] theorem State.await_portL (s : State) (p : Port) (o : Outstanding) : (s.await p o).portL = s.portL := rfl
@[simp] theorem State.await_bankA (s : State) (p : Port) (o : Outstanding) : (s.await p o).bankA = s.bankA := rfl
@[simp] theorem State.await_bankB (s : State) (p : Port) (o : Outstanding) : (s.await p o).bankB = s.bankB := rfl
@[simp] theorem State.await_save (s : State) (p : Port) (o : Outstanding) : (s.await p o).save = s.save := rfl
@[simp] theorem State.await_pending (s : State) (p : Port) (o : Outstanding) :
    (s.await p o).pending = s.pending := rfl

/-! ### enqueue -/

@[simp] theorem State.enqueue_hubState (s : State) (p : Port) (f : Frame) :
    (s.enqueue p f).hubState = s.hubState := rfl
@[simp] theorem State.enqueue_origin (s : State) (p : Port) (f : Frame) : (s.enqueue p f).origin = s.origin := rfl
@[simp] theorem State.enqueue_inputs (s : State) (p : Port) (f : Frame) : (s.enqueue p f).inputs = s.inputs := rfl
@[simp] theorem State.enqueue_devices (s : State) (p : Port) (f : Frame) : (s.enqueue p f).devices = s.devices := rfl
@[simp] theorem State.enqueue_cursor (s : State) (p : Port) (f : Frame) : (s.enqueue p f).cursor = s.cursor := rfl
@[simp] theorem State.enqueue_claims (s : State) (p : Port) (f : Frame) : (s.enqueue p f).claims = s.claims := rfl
@[simp] theorem State.enqueue_late (s : State) (p : Port) (f : Frame) : (s.enqueue p f).late = s.late := rfl
@[simp] theorem State.enqueue_profiles (s : State) (p : Port) (f : Frame) :
    (s.enqueue p f).profiles = s.profiles := rfl
@[simp] theorem State.enqueue_txn (s : State) (p : Port) (f : Frame) : (s.enqueue p f).txn = s.txn := rfl
@[simp] theorem State.enqueue_link (s : State) (p : Port) (f : Frame) : (s.enqueue p f).link = s.link := rfl
@[simp] theorem State.enqueue_rotation (s : State) (p : Port) (f : Frame) :
    (s.enqueue p f).rotation = s.rotation := rfl
@[simp] theorem State.enqueue_portRotation (s : State) (p : Port) (f : Frame) :
    (s.enqueue p f).portRotation = s.portRotation := rfl
@[simp] theorem State.enqueue_portH (s : State) (p : Port) (f : Frame) : (s.enqueue p f).portH = s.portH := rfl
@[simp] theorem State.enqueue_portL (s : State) (p : Port) (f : Frame) : (s.enqueue p f).portL = s.portL := rfl
@[simp] theorem State.enqueue_bankA (s : State) (p : Port) (f : Frame) : (s.enqueue p f).bankA = s.bankA := rfl
@[simp] theorem State.enqueue_bankB (s : State) (p : Port) (f : Frame) : (s.enqueue p f).bankB = s.bankB := rfl
@[simp] theorem State.enqueue_save (s : State) (p : Port) (f : Frame) : (s.enqueue p f).save = s.save := rfl
@[simp] theorem State.enqueue_pending (s : State) (p : Port) (f : Frame) : (s.enqueue p f).pending = s.pending := rfl

/-! ### answerPort -/

@[simp] theorem State.answerPort_hubState (s : State) (p : Port) (f : Outstanding → Option (OutcomeCode × Payload)) :
    (s.answerPort p f).hubState = s.hubState := rfl
@[simp] theorem State.answerPort_origin (s : State) (p : Port) (f : Outstanding → Option (OutcomeCode × Payload)) :
    (s.answerPort p f).origin = s.origin := rfl
@[simp] theorem State.answerPort_inputs (s : State) (p : Port) (f : Outstanding → Option (OutcomeCode × Payload)) :
    (s.answerPort p f).inputs = s.inputs := rfl
@[simp] theorem State.answerPort_devices (s : State) (p : Port) (f : Outstanding → Option (OutcomeCode × Payload)) :
    (s.answerPort p f).devices = s.devices := rfl
@[simp] theorem State.answerPort_cursor (s : State) (p : Port) (f : Outstanding → Option (OutcomeCode × Payload)) :
    (s.answerPort p f).cursor = s.cursor := rfl
@[simp] theorem State.answerPort_claims (s : State) (p : Port) (f : Outstanding → Option (OutcomeCode × Payload)) :
    (s.answerPort p f).claims = s.claims := rfl
@[simp] theorem State.answerPort_late (s : State) (p : Port) (f : Outstanding → Option (OutcomeCode × Payload)) :
    (s.answerPort p f).late = s.late := rfl
@[simp] theorem State.answerPort_profiles (s : State) (p : Port) (f : Outstanding → Option (OutcomeCode × Payload)) :
    (s.answerPort p f).profiles = s.profiles := rfl
@[simp] theorem State.answerPort_txn (s : State) (p : Port) (f : Outstanding → Option (OutcomeCode × Payload)) :
    (s.answerPort p f).txn = s.txn := rfl
@[simp] theorem State.answerPort_link (s : State) (p : Port) (f : Outstanding → Option (OutcomeCode × Payload)) :
    (s.answerPort p f).link = s.link := rfl
@[simp] theorem State.answerPort_rotation (s : State) (p : Port) (f : Outstanding → Option (OutcomeCode × Payload)) :
    (s.answerPort p f).rotation = s.rotation := rfl
@[simp] theorem State.answerPort_portRotation (s : State) (p : Port) (f : Outstanding → Option (OutcomeCode × Payload)) :
    (s.answerPort p f).portRotation = s.portRotation := rfl
@[simp] theorem State.answerPort_portH (s : State) (p : Port) (f : Outstanding → Option (OutcomeCode × Payload)) :
    (s.answerPort p f).portH = s.portH := rfl
@[simp] theorem State.answerPort_portL (s : State) (p : Port) (f : Outstanding → Option (OutcomeCode × Payload)) :
    (s.answerPort p f).portL = s.portL := rfl
@[simp] theorem State.answerPort_bankA (s : State) (p : Port) (f : Outstanding → Option (OutcomeCode × Payload)) :
    (s.answerPort p f).bankA = s.bankA := rfl
@[simp] theorem State.answerPort_bankB (s : State) (p : Port) (f : Outstanding → Option (OutcomeCode × Payload)) :
    (s.answerPort p f).bankB = s.bankB := rfl
@[simp] theorem State.answerPort_save (s : State) (p : Port) (f : Outstanding → Option (OutcomeCode × Payload)) :
    (s.answerPort p f).save = s.save := rfl
@[simp] theorem State.answerPort_pending (s : State) (p : Port) (f : Outstanding → Option (OutcomeCode × Payload)) :
    (s.answerPort p f).pending = s.pending := rfl

/-! ### answer -/

@[simp] theorem State.answer_hubState (s : State) (f : Outstanding → Option (OutcomeCode × Payload)) :
    (s.answer f).hubState = s.hubState := rfl
@[simp] theorem State.answer_origin (s : State) (f : Outstanding → Option (OutcomeCode × Payload)) :
    (s.answer f).origin = s.origin := rfl
@[simp] theorem State.answer_inputs (s : State) (f : Outstanding → Option (OutcomeCode × Payload)) :
    (s.answer f).inputs = s.inputs := rfl
@[simp] theorem State.answer_devices (s : State) (f : Outstanding → Option (OutcomeCode × Payload)) :
    (s.answer f).devices = s.devices := rfl
@[simp] theorem State.answer_cursor (s : State) (f : Outstanding → Option (OutcomeCode × Payload)) :
    (s.answer f).cursor = s.cursor := rfl
@[simp] theorem State.answer_claims (s : State) (f : Outstanding → Option (OutcomeCode × Payload)) :
    (s.answer f).claims = s.claims := rfl
@[simp] theorem State.answer_late (s : State) (f : Outstanding → Option (OutcomeCode × Payload)) :
    (s.answer f).late = s.late := rfl
@[simp] theorem State.answer_profiles (s : State) (f : Outstanding → Option (OutcomeCode × Payload)) :
    (s.answer f).profiles = s.profiles := rfl
@[simp] theorem State.answer_txn (s : State) (f : Outstanding → Option (OutcomeCode × Payload)) :
    (s.answer f).txn = s.txn := rfl
@[simp] theorem State.answer_link (s : State) (f : Outstanding → Option (OutcomeCode × Payload)) :
    (s.answer f).link = s.link := rfl
@[simp] theorem State.answer_rotation (s : State) (f : Outstanding → Option (OutcomeCode × Payload)) :
    (s.answer f).rotation = s.rotation := rfl
@[simp] theorem State.answer_portRotation (s : State) (f : Outstanding → Option (OutcomeCode × Payload)) :
    (s.answer f).portRotation = s.portRotation := rfl
@[simp] theorem State.answer_portH (s : State) (f : Outstanding → Option (OutcomeCode × Payload)) :
    (s.answer f).portH = s.portH := rfl
@[simp] theorem State.answer_portL (s : State) (f : Outstanding → Option (OutcomeCode × Payload)) :
    (s.answer f).portL = s.portL := rfl
@[simp] theorem State.answer_bankA (s : State) (f : Outstanding → Option (OutcomeCode × Payload)) :
    (s.answer f).bankA = s.bankA := rfl
@[simp] theorem State.answer_bankB (s : State) (f : Outstanding → Option (OutcomeCode × Payload)) :
    (s.answer f).bankB = s.bankB := rfl
@[simp] theorem State.answer_save (s : State) (f : Outstanding → Option (OutcomeCode × Payload)) :
    (s.answer f).save = s.save := rfl
@[simp] theorem State.answer_pending (s : State) (f : Outstanding → Option (OutcomeCode × Payload)) :
    (s.answer f).pending = s.pending := rfl

/-! ### postTo -/

@[simp] theorem State.postTo_hubState (s : State) (p : Port) (n : Notice) :
    (s.postTo p n).hubState = s.hubState := rfl
@[simp] theorem State.postTo_origin (s : State) (p : Port) (n : Notice) : (s.postTo p n).origin = s.origin := rfl
@[simp] theorem State.postTo_inputs (s : State) (p : Port) (n : Notice) : (s.postTo p n).inputs = s.inputs := rfl
@[simp] theorem State.postTo_devices (s : State) (p : Port) (n : Notice) : (s.postTo p n).devices = s.devices := rfl
@[simp] theorem State.postTo_cursor (s : State) (p : Port) (n : Notice) : (s.postTo p n).cursor = s.cursor := rfl
@[simp] theorem State.postTo_claims (s : State) (p : Port) (n : Notice) : (s.postTo p n).claims = s.claims := rfl
@[simp] theorem State.postTo_late (s : State) (p : Port) (n : Notice) : (s.postTo p n).late = s.late := rfl
@[simp] theorem State.postTo_profiles (s : State) (p : Port) (n : Notice) :
    (s.postTo p n).profiles = s.profiles := rfl
@[simp] theorem State.postTo_txn (s : State) (p : Port) (n : Notice) : (s.postTo p n).txn = s.txn := rfl
@[simp] theorem State.postTo_link (s : State) (p : Port) (n : Notice) : (s.postTo p n).link = s.link := rfl
@[simp] theorem State.postTo_rotation (s : State) (p : Port) (n : Notice) :
    (s.postTo p n).rotation = s.rotation := rfl
@[simp] theorem State.postTo_portRotation (s : State) (p : Port) (n : Notice) :
    (s.postTo p n).portRotation = s.portRotation := rfl
@[simp] theorem State.postTo_portH (s : State) (p : Port) (n : Notice) : (s.postTo p n).portH = s.portH := rfl
@[simp] theorem State.postTo_portL (s : State) (p : Port) (n : Notice) : (s.postTo p n).portL = s.portL := rfl
@[simp] theorem State.postTo_bankA (s : State) (p : Port) (n : Notice) : (s.postTo p n).bankA = s.bankA := rfl
@[simp] theorem State.postTo_bankB (s : State) (p : Port) (n : Notice) : (s.postTo p n).bankB = s.bankB := rfl
@[simp] theorem State.postTo_save (s : State) (p : Port) (n : Notice) : (s.postTo p n).save = s.save := rfl
@[simp] theorem State.postTo_pending (s : State) (p : Port) (n : Notice) : (s.postTo p n).pending = s.pending := rfl

/-! ### post -/

@[simp] theorem State.post_hubState (s : State) (n : Notice) : (s.post n).hubState = s.hubState := rfl
@[simp] theorem State.post_origin (s : State) (n : Notice) : (s.post n).origin = s.origin := rfl
@[simp] theorem State.post_inputs (s : State) (n : Notice) : (s.post n).inputs = s.inputs := rfl
@[simp] theorem State.post_devices (s : State) (n : Notice) : (s.post n).devices = s.devices := rfl
@[simp] theorem State.post_cursor (s : State) (n : Notice) : (s.post n).cursor = s.cursor := rfl
@[simp] theorem State.post_claims (s : State) (n : Notice) : (s.post n).claims = s.claims := rfl
@[simp] theorem State.post_late (s : State) (n : Notice) : (s.post n).late = s.late := rfl
@[simp] theorem State.post_profiles (s : State) (n : Notice) : (s.post n).profiles = s.profiles := rfl
@[simp] theorem State.post_txn (s : State) (n : Notice) : (s.post n).txn = s.txn := rfl
@[simp] theorem State.post_link (s : State) (n : Notice) : (s.post n).link = s.link := rfl
@[simp] theorem State.post_rotation (s : State) (n : Notice) : (s.post n).rotation = s.rotation := rfl
@[simp] theorem State.post_portRotation (s : State) (n : Notice) : (s.post n).portRotation = s.portRotation := rfl
@[simp] theorem State.post_portH (s : State) (n : Notice) : (s.post n).portH = s.portH := rfl
@[simp] theorem State.post_portL (s : State) (n : Notice) : (s.post n).portL = s.portL := rfl
@[simp] theorem State.post_bankA (s : State) (n : Notice) : (s.post n).bankA = s.bankA := rfl
@[simp] theorem State.post_bankB (s : State) (n : Notice) : (s.post n).bankB = s.bankB := rfl
@[simp] theorem State.post_save (s : State) (n : Notice) : (s.post n).save = s.save := rfl
@[simp] theorem State.post_pending (s : State) (n : Notice) : (s.post n).pending = s.pending := rfl

/-! ### setPortH -/

@[simp] theorem State.setPortH_hubState (s : State) (q : PortH) : (s.setPortH q).hubState = s.hubState := rfl
@[simp] theorem State.setPortH_origin (s : State) (q : PortH) : (s.setPortH q).origin = s.origin := rfl
@[simp] theorem State.setPortH_inputs (s : State) (q : PortH) : (s.setPortH q).inputs = s.inputs := rfl
@[simp] theorem State.setPortH_devices (s : State) (q : PortH) : (s.setPortH q).devices = s.devices := rfl
@[simp] theorem State.setPortH_cursor (s : State) (q : PortH) : (s.setPortH q).cursor = s.cursor := rfl
@[simp] theorem State.setPortH_claims (s : State) (q : PortH) : (s.setPortH q).claims = s.claims := rfl
@[simp] theorem State.setPortH_late (s : State) (q : PortH) : (s.setPortH q).late = s.late := rfl
@[simp] theorem State.setPortH_profiles (s : State) (q : PortH) : (s.setPortH q).profiles = s.profiles := rfl
@[simp] theorem State.setPortH_txn (s : State) (q : PortH) : (s.setPortH q).txn = s.txn := rfl
@[simp] theorem State.setPortH_link (s : State) (q : PortH) : (s.setPortH q).link = s.link := rfl
@[simp] theorem State.setPortH_rotation (s : State) (q : PortH) : (s.setPortH q).rotation = s.rotation := rfl
@[simp] theorem State.setPortH_ports (s : State) (q : PortH) : (s.setPortH q).ports = s.ports := rfl
@[simp] theorem State.setPortH_portRotation (s : State) (q : PortH) :
    (s.setPortH q).portRotation = s.portRotation := rfl
@[simp] theorem State.setPortH_portH (s : State) (q : PortH) : (s.setPortH q).portH = q := rfl
@[simp] theorem State.setPortH_portL (s : State) (q : PortH) : (s.setPortH q).portL = s.portL := rfl
@[simp] theorem State.setPortH_bankA (s : State) (q : PortH) : (s.setPortH q).bankA = s.bankA := rfl
@[simp] theorem State.setPortH_bankB (s : State) (q : PortH) : (s.setPortH q).bankB = s.bankB := rfl
@[simp] theorem State.setPortH_save (s : State) (q : PortH) : (s.setPortH q).save = s.save := rfl
@[simp] theorem State.setPortH_pending (s : State) (q : PortH) : (s.setPortH q).pending = s.pending := rfl

/-! ### setPortL -/

@[simp] theorem State.setPortL_hubState (s : State) (q : PortL) : (s.setPortL q).hubState = s.hubState := rfl
@[simp] theorem State.setPortL_origin (s : State) (q : PortL) : (s.setPortL q).origin = s.origin := rfl
@[simp] theorem State.setPortL_inputs (s : State) (q : PortL) : (s.setPortL q).inputs = s.inputs := rfl
@[simp] theorem State.setPortL_devices (s : State) (q : PortL) : (s.setPortL q).devices = s.devices := rfl
@[simp] theorem State.setPortL_cursor (s : State) (q : PortL) : (s.setPortL q).cursor = s.cursor := rfl
@[simp] theorem State.setPortL_claims (s : State) (q : PortL) : (s.setPortL q).claims = s.claims := rfl
@[simp] theorem State.setPortL_late (s : State) (q : PortL) : (s.setPortL q).late = s.late := rfl
@[simp] theorem State.setPortL_profiles (s : State) (q : PortL) : (s.setPortL q).profiles = s.profiles := rfl
@[simp] theorem State.setPortL_txn (s : State) (q : PortL) : (s.setPortL q).txn = s.txn := rfl
@[simp] theorem State.setPortL_link (s : State) (q : PortL) : (s.setPortL q).link = s.link := rfl
@[simp] theorem State.setPortL_rotation (s : State) (q : PortL) : (s.setPortL q).rotation = s.rotation := rfl
@[simp] theorem State.setPortL_ports (s : State) (q : PortL) : (s.setPortL q).ports = s.ports := rfl
@[simp] theorem State.setPortL_portRotation (s : State) (q : PortL) :
    (s.setPortL q).portRotation = s.portRotation := rfl
@[simp] theorem State.setPortL_portH (s : State) (q : PortL) : (s.setPortL q).portH = s.portH := rfl
@[simp] theorem State.setPortL_portL (s : State) (q : PortL) : (s.setPortL q).portL = q := rfl
@[simp] theorem State.setPortL_bankA (s : State) (q : PortL) : (s.setPortL q).bankA = s.bankA := rfl
@[simp] theorem State.setPortL_bankB (s : State) (q : PortL) : (s.setPortL q).bankB = s.bankB := rfl
@[simp] theorem State.setPortL_save (s : State) (q : PortL) : (s.setPortL q).save = s.save := rfl
@[simp] theorem State.setPortL_pending (s : State) (q : PortL) : (s.setPortL q).pending = s.pending := rfl

/-! ### setLfrm -/

@[simp] theorem State.setLfrm_hubState (s : State) (b : Bool) : (s.setLfrm b).hubState = s.hubState := rfl
@[simp] theorem State.setLfrm_origin (s : State) (b : Bool) : (s.setLfrm b).origin = s.origin := rfl
@[simp] theorem State.setLfrm_inputs (s : State) (b : Bool) :
    (s.setLfrm b).inputs = { s.inputs with lfrm := b } := rfl
@[simp] theorem State.setLfrm_devices (s : State) (b : Bool) : (s.setLfrm b).devices = s.devices := rfl
@[simp] theorem State.setLfrm_cursor (s : State) (b : Bool) : (s.setLfrm b).cursor = s.cursor := rfl
@[simp] theorem State.setLfrm_claims (s : State) (b : Bool) : (s.setLfrm b).claims = s.claims := rfl
@[simp] theorem State.setLfrm_late (s : State) (b : Bool) : (s.setLfrm b).late = s.late := rfl
@[simp] theorem State.setLfrm_profiles (s : State) (b : Bool) : (s.setLfrm b).profiles = s.profiles := rfl
@[simp] theorem State.setLfrm_txn (s : State) (b : Bool) : (s.setLfrm b).txn = s.txn := rfl
@[simp] theorem State.setLfrm_link (s : State) (b : Bool) : (s.setLfrm b).link = s.link := rfl
@[simp] theorem State.setLfrm_rotation (s : State) (b : Bool) : (s.setLfrm b).rotation = s.rotation := rfl
@[simp] theorem State.setLfrm_ports (s : State) (b : Bool) : (s.setLfrm b).ports = s.ports := rfl
@[simp] theorem State.setLfrm_portRotation (s : State) (b : Bool) : (s.setLfrm b).portRotation = s.portRotation := rfl
@[simp] theorem State.setLfrm_portH (s : State) (b : Bool) : (s.setLfrm b).portH = s.portH := rfl
@[simp] theorem State.setLfrm_portL (s : State) (b : Bool) : (s.setLfrm b).portL = s.portL := rfl
@[simp] theorem State.setLfrm_bankA (s : State) (b : Bool) : (s.setLfrm b).bankA = s.bankA := rfl
@[simp] theorem State.setLfrm_bankB (s : State) (b : Bool) : (s.setLfrm b).bankB = s.bankB := rfl
@[simp] theorem State.setLfrm_save (s : State) (b : Bool) : (s.setLfrm b).save = s.save := rfl
@[simp] theorem State.setLfrm_pending (s : State) (b : Bool) : (s.setLfrm b).pending = s.pending := rfl

/-! ### setLack -/

@[simp] theorem State.setLack_hubState (s : State) (b : Bool) : (s.setLack b).hubState = s.hubState := rfl
@[simp] theorem State.setLack_origin (s : State) (b : Bool) : (s.setLack b).origin = s.origin := rfl
@[simp] theorem State.setLack_inputs (s : State) (b : Bool) :
    (s.setLack b).inputs = { s.inputs with lack := b } := rfl
@[simp] theorem State.setLack_devices (s : State) (b : Bool) : (s.setLack b).devices = s.devices := rfl
@[simp] theorem State.setLack_cursor (s : State) (b : Bool) : (s.setLack b).cursor = s.cursor := rfl
@[simp] theorem State.setLack_claims (s : State) (b : Bool) : (s.setLack b).claims = s.claims := rfl
@[simp] theorem State.setLack_late (s : State) (b : Bool) : (s.setLack b).late = s.late := rfl
@[simp] theorem State.setLack_profiles (s : State) (b : Bool) : (s.setLack b).profiles = s.profiles := rfl
@[simp] theorem State.setLack_txn (s : State) (b : Bool) : (s.setLack b).txn = s.txn := rfl
@[simp] theorem State.setLack_link (s : State) (b : Bool) : (s.setLack b).link = s.link := rfl
@[simp] theorem State.setLack_rotation (s : State) (b : Bool) : (s.setLack b).rotation = s.rotation := rfl
@[simp] theorem State.setLack_ports (s : State) (b : Bool) : (s.setLack b).ports = s.ports := rfl
@[simp] theorem State.setLack_portRotation (s : State) (b : Bool) : (s.setLack b).portRotation = s.portRotation := rfl
@[simp] theorem State.setLack_portH (s : State) (b : Bool) : (s.setLack b).portH = s.portH := rfl
@[simp] theorem State.setLack_portL (s : State) (b : Bool) : (s.setLack b).portL = s.portL := rfl
@[simp] theorem State.setLack_bankA (s : State) (b : Bool) : (s.setLack b).bankA = s.bankA := rfl
@[simp] theorem State.setLack_bankB (s : State) (b : Bool) : (s.setLack b).bankB = s.bankB := rfl
@[simp] theorem State.setLack_save (s : State) (b : Bool) : (s.setLack b).save = s.save := rfl
@[simp] theorem State.setLack_pending (s : State) (b : Bool) : (s.setLack b).pending = s.pending := rfl

/-! ### setSupply -/

@[simp] theorem State.setSupply_hubState (s : State) (x : Supply) : (s.setSupply x).hubState = s.hubState := rfl
@[simp] theorem State.setSupply_origin (s : State) (x : Supply) : (s.setSupply x).origin = s.origin := rfl
@[simp] theorem State.setSupply_inputs (s : State) (x : Supply) :
    (s.setSupply x).inputs = { s.inputs with supply := x } := rfl
@[simp] theorem State.setSupply_devices (s : State) (x : Supply) : (s.setSupply x).devices = s.devices := rfl
@[simp] theorem State.setSupply_cursor (s : State) (x : Supply) : (s.setSupply x).cursor = s.cursor := rfl
@[simp] theorem State.setSupply_claims (s : State) (x : Supply) : (s.setSupply x).claims = s.claims := rfl
@[simp] theorem State.setSupply_late (s : State) (x : Supply) : (s.setSupply x).late = s.late := rfl
@[simp] theorem State.setSupply_profiles (s : State) (x : Supply) : (s.setSupply x).profiles = s.profiles := rfl
@[simp] theorem State.setSupply_txn (s : State) (x : Supply) : (s.setSupply x).txn = s.txn := rfl
@[simp] theorem State.setSupply_link (s : State) (x : Supply) : (s.setSupply x).link = s.link := rfl
@[simp] theorem State.setSupply_rotation (s : State) (x : Supply) : (s.setSupply x).rotation = s.rotation := rfl
@[simp] theorem State.setSupply_ports (s : State) (x : Supply) : (s.setSupply x).ports = s.ports := rfl
@[simp] theorem State.setSupply_portRotation (s : State) (x : Supply) :
    (s.setSupply x).portRotation = s.portRotation := rfl
@[simp] theorem State.setSupply_portH (s : State) (x : Supply) : (s.setSupply x).portH = s.portH := rfl
@[simp] theorem State.setSupply_portL (s : State) (x : Supply) : (s.setSupply x).portL = s.portL := rfl
@[simp] theorem State.setSupply_bankA (s : State) (x : Supply) : (s.setSupply x).bankA = s.bankA := rfl
@[simp] theorem State.setSupply_bankB (s : State) (x : Supply) : (s.setSupply x).bankB = s.bankB := rfl
@[simp] theorem State.setSupply_save (s : State) (x : Supply) : (s.setSupply x).save = s.save := rfl
@[simp] theorem State.setSupply_pending (s : State) (x : Supply) : (s.setSupply x).pending = s.pending := rfl

/-! ### setRst -/

@[simp] theorem State.setRst_hubState (s : State) (b : Bool) : (s.setRst b).hubState = s.hubState := rfl
@[simp] theorem State.setRst_origin (s : State) (b : Bool) : (s.setRst b).origin = s.origin := rfl
@[simp] theorem State.setRst_inputs (s : State) (b : Bool) : (s.setRst b).inputs = { s.inputs with rst := b } := rfl
@[simp] theorem State.setRst_devices (s : State) (b : Bool) : (s.setRst b).devices = s.devices := rfl
@[simp] theorem State.setRst_cursor (s : State) (b : Bool) : (s.setRst b).cursor = s.cursor := rfl
@[simp] theorem State.setRst_claims (s : State) (b : Bool) : (s.setRst b).claims = s.claims := rfl
@[simp] theorem State.setRst_late (s : State) (b : Bool) : (s.setRst b).late = s.late := rfl
@[simp] theorem State.setRst_profiles (s : State) (b : Bool) : (s.setRst b).profiles = s.profiles := rfl
@[simp] theorem State.setRst_txn (s : State) (b : Bool) : (s.setRst b).txn = s.txn := rfl
@[simp] theorem State.setRst_link (s : State) (b : Bool) : (s.setRst b).link = s.link := rfl
@[simp] theorem State.setRst_rotation (s : State) (b : Bool) : (s.setRst b).rotation = s.rotation := rfl
@[simp] theorem State.setRst_ports (s : State) (b : Bool) : (s.setRst b).ports = s.ports := rfl
@[simp] theorem State.setRst_portRotation (s : State) (b : Bool) : (s.setRst b).portRotation = s.portRotation := rfl
@[simp] theorem State.setRst_portH (s : State) (b : Bool) : (s.setRst b).portH = s.portH := rfl
@[simp] theorem State.setRst_portL (s : State) (b : Bool) : (s.setRst b).portL = s.portL := rfl
@[simp] theorem State.setRst_bankA (s : State) (b : Bool) : (s.setRst b).bankA = s.bankA := rfl
@[simp] theorem State.setRst_bankB (s : State) (b : Bool) : (s.setRst b).bankB = s.bankB := rfl
@[simp] theorem State.setRst_save (s : State) (b : Bool) : (s.setRst b).save = s.save := rfl
@[simp] theorem State.setRst_pending (s : State) (b : Bool) : (s.setRst b).pending = s.pending := rfl

/-! ### rotateFrom -/

@[simp] theorem State.rotateFrom_hubState (s : State) (r : Rotation) : (s.rotateFrom r).hubState = s.hubState := rfl
@[simp] theorem State.rotateFrom_origin (s : State) (r : Rotation) : (s.rotateFrom r).origin = s.origin := rfl
@[simp] theorem State.rotateFrom_inputs (s : State) (r : Rotation) : (s.rotateFrom r).inputs = s.inputs := rfl
@[simp] theorem State.rotateFrom_devices (s : State) (r : Rotation) : (s.rotateFrom r).devices = s.devices := rfl
@[simp] theorem State.rotateFrom_cursor (s : State) (r : Rotation) : (s.rotateFrom r).cursor = s.cursor := rfl
@[simp] theorem State.rotateFrom_claims (s : State) (r : Rotation) : (s.rotateFrom r).claims = s.claims := rfl
@[simp] theorem State.rotateFrom_late (s : State) (r : Rotation) : (s.rotateFrom r).late = s.late := rfl
@[simp] theorem State.rotateFrom_profiles (s : State) (r : Rotation) : (s.rotateFrom r).profiles = s.profiles := rfl
@[simp] theorem State.rotateFrom_txn (s : State) (r : Rotation) : (s.rotateFrom r).txn = s.txn := rfl
@[simp] theorem State.rotateFrom_link (s : State) (r : Rotation) : (s.rotateFrom r).link = s.link := rfl
@[simp] theorem State.rotateFrom_rotation (s : State) (r : Rotation) : (s.rotateFrom r).rotation = r.next := rfl
@[simp] theorem State.rotateFrom_ports (s : State) (r : Rotation) : (s.rotateFrom r).ports = s.ports := rfl
@[simp] theorem State.rotateFrom_portRotation (s : State) (r : Rotation) :
    (s.rotateFrom r).portRotation = s.portRotation := rfl
@[simp] theorem State.rotateFrom_portH (s : State) (r : Rotation) : (s.rotateFrom r).portH = s.portH := rfl
@[simp] theorem State.rotateFrom_portL (s : State) (r : Rotation) : (s.rotateFrom r).portL = s.portL := rfl
@[simp] theorem State.rotateFrom_bankA (s : State) (r : Rotation) : (s.rotateFrom r).bankA = s.bankA := rfl
@[simp] theorem State.rotateFrom_bankB (s : State) (r : Rotation) : (s.rotateFrom r).bankB = s.bankB := rfl
@[simp] theorem State.rotateFrom_save (s : State) (r : Rotation) : (s.rotateFrom r).save = s.save := rfl
@[simp] theorem State.rotateFrom_pending (s : State) (r : Rotation) : (s.rotateFrom r).pending = s.pending := rfl

/-! ### endFrame -/

@[simp] theorem State.endFrame_hubState (s : State) : s.endFrame.hubState = s.hubState := rfl
@[simp] theorem State.endFrame_origin (s : State) : s.endFrame.origin = s.origin := rfl
@[simp] theorem State.endFrame_inputs (s : State) : s.endFrame.inputs = s.inputs := rfl
@[simp] theorem State.endFrame_devices (s : State) : s.endFrame.devices = s.devices := rfl
@[simp] theorem State.endFrame_cursor (s : State) : s.endFrame.cursor = s.cursor := rfl
@[simp] theorem State.endFrame_claims (s : State) : s.endFrame.claims = s.claims := rfl
@[simp] theorem State.endFrame_late (s : State) : s.endFrame.late = s.late := rfl
@[simp] theorem State.endFrame_profiles (s : State) : s.endFrame.profiles = s.profiles := rfl
@[simp] theorem State.endFrame_txn (s : State) : s.endFrame.txn = s.txn := rfl
@[simp] theorem State.endFrame_link (s : State) : s.endFrame.link = none := rfl
@[simp] theorem State.endFrame_rotation (s : State) : s.endFrame.rotation = s.rotation := rfl
@[simp] theorem State.endFrame_ports (s : State) : s.endFrame.ports = s.ports := rfl
@[simp] theorem State.endFrame_portRotation (s : State) : s.endFrame.portRotation = s.portRotation := rfl
@[simp] theorem State.endFrame_portH (s : State) : s.endFrame.portH = s.portH := rfl
@[simp] theorem State.endFrame_portL (s : State) : s.endFrame.portL = s.portL := rfl
@[simp] theorem State.endFrame_bankA (s : State) : s.endFrame.bankA = s.bankA := rfl
@[simp] theorem State.endFrame_bankB (s : State) : s.endFrame.bankB = s.bankB := rfl
@[simp] theorem State.endFrame_save (s : State) : s.endFrame.save = s.save := rfl
@[simp] theorem State.endFrame_pending (s : State) : s.endFrame.pending = s.pending := rfl

/-! ### endTxn -/

@[simp] theorem State.endTxn_hubState (s : State) (t : Txn) : (s.endTxn t).hubState = s.hubState := rfl
@[simp] theorem State.endTxn_origin (s : State) (t : Txn) : (s.endTxn t).origin = s.origin := rfl
@[simp] theorem State.endTxn_inputs (s : State) (t : Txn) : (s.endTxn t).inputs = s.inputs := rfl
@[simp] theorem State.endTxn_devices (s : State) (t : Txn) : (s.endTxn t).devices = s.devices := rfl
@[simp] theorem State.endTxn_cursor (s : State) (t : Txn) :
    (s.endTxn t).cursor = if t.kind = .push ∨ t.kind = .marker then nextDev t.device else s.cursor := rfl
@[simp] theorem State.endTxn_claims (s : State) (t : Txn) : (s.endTxn t).claims = s.claims := rfl
@[simp] theorem State.endTxn_late (s : State) (t : Txn) : (s.endTxn t).late = s.late := rfl
@[simp] theorem State.endTxn_profiles (s : State) (t : Txn) : (s.endTxn t).profiles = s.profiles := rfl
@[simp] theorem State.endTxn_txn (s : State) (t : Txn) : (s.endTxn t).txn = none := rfl
@[simp] theorem State.endTxn_link (s : State) (t : Txn) : (s.endTxn t).link = none := rfl
@[simp] theorem State.endTxn_rotation (s : State) (t : Txn) : (s.endTxn t).rotation = s.rotation := rfl
@[simp] theorem State.endTxn_ports (s : State) (t : Txn) : (s.endTxn t).ports = s.ports := rfl
@[simp] theorem State.endTxn_portRotation (s : State) (t : Txn) : (s.endTxn t).portRotation = s.portRotation := rfl
@[simp] theorem State.endTxn_portH (s : State) (t : Txn) : (s.endTxn t).portH = s.portH := rfl
@[simp] theorem State.endTxn_portL (s : State) (t : Txn) : (s.endTxn t).portL = s.portL := rfl
@[simp] theorem State.endTxn_bankA (s : State) (t : Txn) : (s.endTxn t).bankA = s.bankA := rfl
@[simp] theorem State.endTxn_bankB (s : State) (t : Txn) : (s.endTxn t).bankB = s.bankB := rfl
@[simp] theorem State.endTxn_save (s : State) (t : Txn) : (s.endTxn t).save = s.save := rfl
@[simp] theorem State.endTxn_pending (s : State) (t : Txn) : (s.endTxn t).pending = s.pending := rfl

/-! ### startTxn -/

@[simp] theorem State.startTxn_hubState (s : State) (t : Txn) (op : LinkOp) (v : Value) :
    (s.startTxn t op v).hubState = s.hubState := rfl
@[simp] theorem State.startTxn_origin (s : State) (t : Txn) (op : LinkOp) (v : Value) :
    (s.startTxn t op v).origin = s.origin := rfl
@[simp] theorem State.startTxn_inputs (s : State) (t : Txn) (op : LinkOp) (v : Value) :
    (s.startTxn t op v).inputs = s.inputs := rfl
@[simp] theorem State.startTxn_devices (s : State) (t : Txn) (op : LinkOp) (v : Value) :
    (s.startTxn t op v).devices = s.devices := rfl
@[simp] theorem State.startTxn_cursor (s : State) (t : Txn) (op : LinkOp) (v : Value) :
    (s.startTxn t op v).cursor = s.cursor := rfl
@[simp] theorem State.startTxn_claims (s : State) (t : Txn) (op : LinkOp) (v : Value) :
    (s.startTxn t op v).claims = s.claims := rfl
@[simp] theorem State.startTxn_late (s : State) (t : Txn) (op : LinkOp) (v : Value) :
    (s.startTxn t op v).late = s.late := rfl
@[simp] theorem State.startTxn_profiles (s : State) (t : Txn) (op : LinkOp) (v : Value) :
    (s.startTxn t op v).profiles = s.profiles := rfl
@[simp] theorem State.startTxn_txn (s : State) (t : Txn) (op : LinkOp) (v : Value) :
    (s.startTxn t op v).txn = some t := rfl
@[simp] theorem State.startTxn_link (s : State) (t : Txn) (op : LinkOp) (v : Value) :
    (s.startTxn t op v).link = some { device := t.device, op := op, register := t.register, data := v, speedClass := t.params.speedClass } := rfl
@[simp] theorem State.startTxn_rotation (s : State) (t : Txn) (op : LinkOp) (v : Value) :
    (s.startTxn t op v).rotation = s.rotation := rfl
@[simp] theorem State.startTxn_ports (s : State) (t : Txn) (op : LinkOp) (v : Value) :
    (s.startTxn t op v).ports = s.ports := rfl
@[simp] theorem State.startTxn_portRotation (s : State) (t : Txn) (op : LinkOp) (v : Value) :
    (s.startTxn t op v).portRotation = s.portRotation := rfl
@[simp] theorem State.startTxn_portH (s : State) (t : Txn) (op : LinkOp) (v : Value) :
    (s.startTxn t op v).portH = s.portH := rfl
@[simp] theorem State.startTxn_portL (s : State) (t : Txn) (op : LinkOp) (v : Value) :
    (s.startTxn t op v).portL = s.portL := rfl
@[simp] theorem State.startTxn_bankA (s : State) (t : Txn) (op : LinkOp) (v : Value) :
    (s.startTxn t op v).bankA = s.bankA := rfl
@[simp] theorem State.startTxn_bankB (s : State) (t : Txn) (op : LinkOp) (v : Value) :
    (s.startTxn t op v).bankB = s.bankB := rfl
@[simp] theorem State.startTxn_save (s : State) (t : Txn) (op : LinkOp) (v : Value) :
    (s.startTxn t op v).save = s.save := rfl
@[simp] theorem State.startTxn_pending (s : State) (t : Txn) (op : LinkOp) (v : Value) :
    (s.startTxn t op v).pending = s.pending := rfl

end Sys2Proof.Machine
end

