-- ==== Sys2Proof/Laws/Frames.lean ====
section
/-! SUPPORT. What each shared operation can touch: for each, one equation that says that the state after it is the state
before it but for the fields named, and from it the value of every other field. -/

namespace Sys2Proof.Machine

/-- Two states are equal when every field is. -/
theorem State.ext_fields {s t : State}
    (h1 : s.hubState = t.hubState) (h2 : s.origin = t.origin) (h3 : s.inputs = t.inputs) (h4 : s.devices = t.devices)
    (h5 : s.cursor = t.cursor) (h6 : s.claims = t.claims) (h7 : s.late = t.late) (h8 : s.profiles = t.profiles)
    (h9 : s.txn = t.txn) (h10 : s.link = t.link) (h11 : s.rotation = t.rotation) (h12 : s.ports = t.ports)
    (h13 : s.portRotation = t.portRotation) (h14 : s.portH = t.portH) (h15 : s.portL = t.portL)
    (h16 : s.bankA = t.bankA) (h17 : s.bankB = t.bankB) (h18 : s.save = t.save) (h19 : s.pending = t.pending) : s = t := by
  cases s
  cases t
  simp_all

/-! ### modDevice -/

theorem State.modDevice_eq (s : State) (d : DevNum) (f : Device → Device) :
    (s.modDevice d f) =
      { s with devices := (s.modDevice d f).devices } := by
  unfold State.modDevice
  split <;> rfl

@[simp] theorem State.modDevice_hubState (s : State) (d : DevNum) (f : Device → Device) :
    (s.modDevice d f).hubState = s.hubState := by
  rw [State.modDevice_eq]
@[simp] theorem State.modDevice_origin (s : State) (d : DevNum) (f : Device → Device) :
    (s.modDevice d f).origin = s.origin := by
  rw [State.modDevice_eq]
@[simp] theorem State.modDevice_inputs (s : State) (d : DevNum) (f : Device → Device) :
    (s.modDevice d f).inputs = s.inputs := by
  rw [State.modDevice_eq]
@[simp] theorem State.modDevice_cursor (s : State) (d : DevNum) (f : Device → Device) :
    (s.modDevice d f).cursor = s.cursor := by
  rw [State.modDevice_eq]
@[simp] theorem State.modDevice_claims (s : State) (d : DevNum) (f : Device → Device) :
    (s.modDevice d f).claims = s.claims := by
  rw [State.modDevice_eq]
@[simp] theorem State.modDevice_late (s : State) (d : DevNum) (f : Device → Device) :
    (s.modDevice d f).late = s.late := by
  rw [State.modDevice_eq]
@[simp] theorem State.modDevice_profiles (s : State) (d : DevNum) (f : Device → Device) :
    (s.modDevice d f).profiles = s.profiles := by
  rw [State.modDevice_eq]
@[simp] theorem State.modDevice_txn (s : State) (d : DevNum) (f : Device → Device) :
    (s.modDevice d f).txn = s.txn := by
  rw [State.modDevice_eq]
@[simp] theorem State.modDevice_link (s : State) (d : DevNum) (f : Device → Device) :
    (s.modDevice d f).link = s.link := by
  rw [State.modDevice_eq]
@[simp] theorem State.modDevice_rotation (s : State) (d : DevNum) (f : Device → Device) :
    (s.modDevice d f).rotation = s.rotation := by
  rw [State.modDevice_eq]
@[simp] theorem State.modDevice_ports (s : State) (d : DevNum) (f : Device → Device) :
    (s.modDevice d f).ports = s.ports := by
  rw [State.modDevice_eq]
@[simp] theorem State.modDevice_portRotation (s : State) (d : DevNum) (f : Device → Device) :
    (s.modDevice d f).portRotation = s.portRotation := by
  rw [State.modDevice_eq]
@[simp] theorem State.modDevice_portH (s : State) (d : DevNum) (f : Device → Device) :
    (s.modDevice d f).portH = s.portH := by
  rw [State.modDevice_eq]
@[simp] theorem State.modDevice_portL (s : State) (d : DevNum) (f : Device → Device) :
    (s.modDevice d f).portL = s.portL := by
  rw [State.modDevice_eq]
@[simp] theorem State.modDevice_bankA (s : State) (d : DevNum) (f : Device → Device) :
    (s.modDevice d f).bankA = s.bankA := by
  rw [State.modDevice_eq]
@[simp] theorem State.modDevice_bankB (s : State) (d : DevNum) (f : Device → Device) :
    (s.modDevice d f).bankB = s.bankB := by
  rw [State.modDevice_eq]
@[simp] theorem State.modDevice_save (s : State) (d : DevNum) (f : Device → Device) :
    (s.modDevice d f).save = s.save := by
  rw [State.modDevice_eq]
@[simp] theorem State.modDevice_pending (s : State) (d : DevNum) (f : Device → Device) :
    (s.modDevice d f).pending = s.pending := by
  rw [State.modDevice_eq]

/-! ### reexamine -/

theorem State.reexamine_eq (s : State) (d : DevNum) :
    (s.reexamine d) =
      { s with devices := (s.reexamine d).devices } :=
  State.modDevice_eq s d _

@[simp] theorem State.reexamine_hubState (s : State) (d : DevNum) : (s.reexamine d).hubState = s.hubState := by
  rw [State.reexamine_eq]
@[simp] theorem State.reexamine_origin (s : State) (d : DevNum) : (s.reexamine d).origin = s.origin := by
  rw [State.reexamine_eq]
@[simp] theorem State.reexamine_inputs (s : State) (d : DevNum) : (s.reexamine d).inputs = s.inputs := by
  rw [State.reexamine_eq]
@[simp] theorem State.reexamine_cursor (s : State) (d : DevNum) : (s.reexamine d).cursor = s.cursor := by
  rw [State.reexamine_eq]
@[simp] theorem State.reexamine_claims (s : State) (d : DevNum) : (s.reexamine d).claims = s.claims := by
  rw [State.reexamine_eq]
@[simp] theorem State.reexamine_late (s : State) (d : DevNum) : (s.reexamine d).late = s.late := by
  rw [State.reexamine_eq]
@[simp] theorem State.reexamine_profiles (s : State) (d : DevNum) : (s.reexamine d).profiles = s.profiles := by
  rw [State.reexamine_eq]
@[simp] theorem State.reexamine_txn (s : State) (d : DevNum) : (s.reexamine d).txn = s.txn := by
  rw [State.reexamine_eq]
@[simp] theorem State.reexamine_link (s : State) (d : DevNum) : (s.reexamine d).link = s.link := by
  rw [State.reexamine_eq]
@[simp] theorem State.reexamine_rotation (s : State) (d : DevNum) : (s.reexamine d).rotation = s.rotation := by
  rw [State.reexamine_eq]
@[simp] theorem State.reexamine_ports (s : State) (d : DevNum) : (s.reexamine d).ports = s.ports := by
  rw [State.reexamine_eq]
@[simp] theorem State.reexamine_portRotation (s : State) (d : DevNum) :
    (s.reexamine d).portRotation = s.portRotation := by
  rw [State.reexamine_eq]
@[simp] theorem State.reexamine_portH (s : State) (d : DevNum) : (s.reexamine d).portH = s.portH := by
  rw [State.reexamine_eq]
@[simp] theorem State.reexamine_portL (s : State) (d : DevNum) : (s.reexamine d).portL = s.portL := by
  rw [State.reexamine_eq]
@[simp] theorem State.reexamine_bankA (s : State) (d : DevNum) : (s.reexamine d).bankA = s.bankA := by
  rw [State.reexamine_eq]
@[simp] theorem State.reexamine_bankB (s : State) (d : DevNum) : (s.reexamine d).bankB = s.bankB := by
  rw [State.reexamine_eq]
@[simp] theorem State.reexamine_save (s : State) (d : DevNum) : (s.reexamine d).save = s.save := by
  rw [State.reexamine_eq]
@[simp] theorem State.reexamine_pending (s : State) (d : DevNum) : (s.reexamine d).pending = s.pending := by
  rw [State.reexamine_eq]

/-! ### reexamineAll -/

theorem State.reexamineAll_eq (s : State) :
    s.reexamineAll =
      { s with devices := s.reexamineAll.devices } := by
  apply State.ext_fields <;> simp [State.reexamineAll]

@[simp] theorem State.reexamineAll_hubState (s : State) : s.reexamineAll.hubState = s.hubState := by
  rw [State.reexamineAll_eq]
@[simp] theorem State.reexamineAll_origin (s : State) : s.reexamineAll.origin = s.origin := by
  rw [State.reexamineAll_eq]
@[simp] theorem State.reexamineAll_inputs (s : State) : s.reexamineAll.inputs = s.inputs := by
  rw [State.reexamineAll_eq]
@[simp] theorem State.reexamineAll_cursor (s : State) : s.reexamineAll.cursor = s.cursor := by
  rw [State.reexamineAll_eq]
@[simp] theorem State.reexamineAll_claims (s : State) : s.reexamineAll.claims = s.claims := by
  rw [State.reexamineAll_eq]
@[simp] theorem State.reexamineAll_late (s : State) : s.reexamineAll.late = s.late := by
  rw [State.reexamineAll_eq]
@[simp] theorem State.reexamineAll_profiles (s : State) : s.reexamineAll.profiles = s.profiles := by
  rw [State.reexamineAll_eq]
@[simp] theorem State.reexamineAll_txn (s : State) : s.reexamineAll.txn = s.txn := by
  rw [State.reexamineAll_eq]
@[simp] theorem State.reexamineAll_link (s : State) : s.reexamineAll.link = s.link := by
  rw [State.reexamineAll_eq]
@[simp] theorem State.reexamineAll_rotation (s : State) : s.reexamineAll.rotation = s.rotation := by
  rw [State.reexamineAll_eq]
@[simp] theorem State.reexamineAll_ports (s : State) : s.reexamineAll.ports = s.ports := by
  rw [State.reexamineAll_eq]
@[simp] theorem State.reexamineAll_portRotation (s : State) : s.reexamineAll.portRotation = s.portRotation := by
  rw [State.reexamineAll_eq]
@[simp] theorem State.reexamineAll_portH (s : State) : s.reexamineAll.portH = s.portH := by
  rw [State.reexamineAll_eq]
@[simp] theorem State.reexamineAll_portL (s : State) : s.reexamineAll.portL = s.portL := by
  rw [State.reexamineAll_eq]
@[simp] theorem State.reexamineAll_bankA (s : State) : s.reexamineAll.bankA = s.bankA := by
  rw [State.reexamineAll_eq]
@[simp] theorem State.reexamineAll_bankB (s : State) : s.reexamineAll.bankB = s.bankB := by
  rw [State.reexamineAll_eq]
@[simp] theorem State.reexamineAll_save (s : State) : s.reexamineAll.save = s.save := by
  rw [State.reexamineAll_eq]
@[simp] theorem State.reexamineAll_pending (s : State) : s.reexamineAll.pending = s.pending := by
  rw [State.reexamineAll_eq]

/-! ### beginLoad -/

theorem State.beginLoad_eq (s : State) (d : DevNum) :
    (s.beginLoad d) =
      { s with devices := (s.beginLoad d).devices } :=
  State.modDevice_eq s d _

@[simp] theorem State.beginLoad_hubState (s : State) (d : DevNum) : (s.beginLoad d).hubState = s.hubState := by
  rw [State.beginLoad_eq]
@[simp] theorem State.beginLoad_origin (s : State) (d : DevNum) : (s.beginLoad d).origin = s.origin := by
  rw [State.beginLoad_eq]
@[simp] theorem State.beginLoad_inputs (s : State) (d : DevNum) : (s.beginLoad d).inputs = s.inputs := by
  rw [State.beginLoad_eq]
@[simp] theorem State.beginLoad_cursor (s : State) (d : DevNum) : (s.beginLoad d).cursor = s.cursor := by
  rw [State.beginLoad_eq]
@[simp] theorem State.beginLoad_claims (s : State) (d : DevNum) : (s.beginLoad d).claims = s.claims := by
  rw [State.beginLoad_eq]
@[simp] theorem State.beginLoad_late (s : State) (d : DevNum) : (s.beginLoad d).late = s.late := by
  rw [State.beginLoad_eq]
@[simp] theorem State.beginLoad_profiles (s : State) (d : DevNum) : (s.beginLoad d).profiles = s.profiles := by
  rw [State.beginLoad_eq]
@[simp] theorem State.beginLoad_txn (s : State) (d : DevNum) : (s.beginLoad d).txn = s.txn := by
  rw [State.beginLoad_eq]
@[simp] theorem State.beginLoad_link (s : State) (d : DevNum) : (s.beginLoad d).link = s.link := by
  rw [State.beginLoad_eq]
@[simp] theorem State.beginLoad_rotation (s : State) (d : DevNum) : (s.beginLoad d).rotation = s.rotation := by
  rw [State.beginLoad_eq]
@[simp] theorem State.beginLoad_ports (s : State) (d : DevNum) : (s.beginLoad d).ports = s.ports := by
  rw [State.beginLoad_eq]
@[simp] theorem State.beginLoad_portRotation (s : State) (d : DevNum) :
    (s.beginLoad d).portRotation = s.portRotation := by
  rw [State.beginLoad_eq]
@[simp] theorem State.beginLoad_portH (s : State) (d : DevNum) : (s.beginLoad d).portH = s.portH := by
  rw [State.beginLoad_eq]
@[simp] theorem State.beginLoad_portL (s : State) (d : DevNum) : (s.beginLoad d).portL = s.portL := by
  rw [State.beginLoad_eq]
@[simp] theorem State.beginLoad_bankA (s : State) (d : DevNum) : (s.beginLoad d).bankA = s.bankA := by
  rw [State.beginLoad_eq]
@[simp] theorem State.beginLoad_bankB (s : State) (d : DevNum) : (s.beginLoad d).bankB = s.bankB := by
  rw [State.beginLoad_eq]
@[simp] theorem State.beginLoad_save (s : State) (d : DevNum) : (s.beginLoad d).save = s.save := by
  rw [State.beginLoad_eq]
@[simp] theorem State.beginLoad_pending (s : State) (d : DevNum) : (s.beginLoad d).pending = s.pending := by
  rw [State.beginLoad_eq]

/-! ### discardTxn -/

theorem State.discardTxn_eq (s : State) (d : DevNum) (ks : List TxnKind) :
    (s.discardTxn d ks) =
      { s with txn := (s.discardTxn d ks).txn } := by
  unfold State.discardTxn
  split
  · split <;> rfl
  · rfl

@[simp] theorem State.discardTxn_hubState (s : State) (d : DevNum) (ks : List TxnKind) :
    (s.discardTxn d ks).hubState = s.hubState := by
  rw [State.discardTxn_eq]
@[simp] theorem State.discardTxn_origin (s : State) (d : DevNum) (ks : List TxnKind) :
    (s.discardTxn d ks).origin = s.origin := by
  rw [State.discardTxn_eq]
@[simp] theorem State.discardTxn_inputs (s : State) (d : DevNum) (ks : List TxnKind) :
    (s.discardTxn d ks).inputs = s.inputs := by
  rw [State.discardTxn_eq]
@[simp] theorem State.discardTxn_devices (s : State) (d : DevNum) (ks : List TxnKind) :
    (s.discardTxn d ks).devices = s.devices := by
  rw [State.discardTxn_eq]
@[simp] theorem State.discardTxn_cursor (s : State) (d : DevNum) (ks : List TxnKind) :
    (s.discardTxn d ks).cursor = s.cursor := by
  rw [State.discardTxn_eq]
@[simp] theorem State.discardTxn_claims (s : State) (d : DevNum) (ks : List TxnKind) :
    (s.discardTxn d ks).claims = s.claims := by
  rw [State.discardTxn_eq]
@[simp] theorem State.discardTxn_late (s : State) (d : DevNum) (ks : List TxnKind) :
    (s.discardTxn d ks).late = s.late := by
  rw [State.discardTxn_eq]
@[simp] theorem State.discardTxn_profiles (s : State) (d : DevNum) (ks : List TxnKind) :
    (s.discardTxn d ks).profiles = s.profiles := by
  rw [State.discardTxn_eq]
@[simp] theorem State.discardTxn_link (s : State) (d : DevNum) (ks : List TxnKind) :
    (s.discardTxn d ks).link = s.link := by
  rw [State.discardTxn_eq]
@[simp] theorem State.discardTxn_rotation (s : State) (d : DevNum) (ks : List TxnKind) :
    (s.discardTxn d ks).rotation = s.rotation := by
  rw [State.discardTxn_eq]
@[simp] theorem State.discardTxn_ports (s : State) (d : DevNum) (ks : List TxnKind) :
    (s.discardTxn d ks).ports = s.ports := by
  rw [State.discardTxn_eq]
@[simp] theorem State.discardTxn_portRotation (s : State) (d : DevNum) (ks : List TxnKind) :
    (s.discardTxn d ks).portRotation = s.portRotation := by
  rw [State.discardTxn_eq]
@[simp] theorem State.discardTxn_portH (s : State) (d : DevNum) (ks : List TxnKind) :
    (s.discardTxn d ks).portH = s.portH := by
  rw [State.discardTxn_eq]
@[simp] theorem State.discardTxn_portL (s : State) (d : DevNum) (ks : List TxnKind) :
    (s.discardTxn d ks).portL = s.portL := by
  rw [State.discardTxn_eq]
@[simp] theorem State.discardTxn_bankA (s : State) (d : DevNum) (ks : List TxnKind) :
    (s.discardTxn d ks).bankA = s.bankA := by
  rw [State.discardTxn_eq]
@[simp] theorem State.discardTxn_bankB (s : State) (d : DevNum) (ks : List TxnKind) :
    (s.discardTxn d ks).bankB = s.bankB := by
  rw [State.discardTxn_eq]
@[simp] theorem State.discardTxn_save (s : State) (d : DevNum) (ks : List TxnKind) :
    (s.discardTxn d ks).save = s.save := by
  rw [State.discardTxn_eq]
@[simp] theorem State.discardTxn_pending (s : State) (d : DevNum) (ks : List TxnKind) :
    (s.discardTxn d ks).pending = s.pending := by
  rw [State.discardTxn_eq]

/-! ### addUnapplied -/

theorem State.addUnapplied_eq (s : State) (n : Nat) :
    (s.addUnapplied n) =
      { s with profiles := (s.addUnapplied n).profiles } := by
  unfold State.addUnapplied
  split <;> rfl

@[simp] theorem State.addUnapplied_hubState (s : State) (n : Nat) : (s.addUnapplied n).hubState = s.hubState := by
  rw [State.addUnapplied_eq]
@[simp] theorem State.addUnapplied_origin (s : State) (n : Nat) : (s.addUnapplied n).origin = s.origin := by
  rw [State.addUnapplied_eq]
@[simp] theorem State.addUnapplied_inputs (s : State) (n : Nat) : (s.addUnapplied n).inputs = s.inputs := by
  rw [State.addUnapplied_eq]
@[simp] theorem State.addUnapplied_devices (s : State) (n : Nat) : (s.addUnapplied n).devices = s.devices := by
  rw [State.addUnapplied_eq]
@[simp] theorem State.addUnapplied_cursor (s : State) (n : Nat) : (s.addUnapplied n).cursor = s.cursor := by
  rw [State.addUnapplied_eq]
@[simp] theorem State.addUnapplied_claims (s : State) (n : Nat) : (s.addUnapplied n).claims = s.claims := by
  rw [State.addUnapplied_eq]
@[simp] theorem State.addUnapplied_late (s : State) (n : Nat) : (s.addUnapplied n).late = s.late := by
  rw [State.addUnapplied_eq]
@[simp] theorem State.addUnapplied_txn (s : State) (n : Nat) : (s.addUnapplied n).txn = s.txn := by
  rw [State.addUnapplied_eq]
@[simp] theorem State.addUnapplied_link (s : State) (n : Nat) : (s.addUnapplied n).link = s.link := by
  rw [State.addUnapplied_eq]
@[simp] theorem State.addUnapplied_rotation (s : State) (n : Nat) : (s.addUnapplied n).rotation = s.rotation := by
  rw [State.addUnapplied_eq]
@[simp] theorem State.addUnapplied_ports (s : State) (n : Nat) : (s.addUnapplied n).ports = s.ports := by
  rw [State.addUnapplied_eq]
@[simp] theorem State.addUnapplied_portRotation (s : State) (n : Nat) :
    (s.addUnapplied n).portRotation = s.portRotation := by
  rw [State.addUnapplied_eq]
@[simp] theorem State.addUnapplied_portH (s : State) (n : Nat) : (s.addUnapplied n).portH = s.portH := by
  rw [State.addUnapplied_eq]
@[simp] theorem State.addUnapplied_portL (s : State) (n : Nat) : (s.addUnapplied n).portL = s.portL := by
  rw [State.addUnapplied_eq]
@[simp] theorem State.addUnapplied_bankA (s : State) (n : Nat) : (s.addUnapplied n).bankA = s.bankA := by
  rw [State.addUnapplied_eq]
@[simp] theorem State.addUnapplied_bankB (s : State) (n : Nat) : (s.addUnapplied n).bankB = s.bankB := by
  rw [State.addUnapplied_eq]
@[simp] theorem State.addUnapplied_save (s : State) (n : Nat) : (s.addUnapplied n).save = s.save := by
  rw [State.addUnapplied_eq]
@[simp] theorem State.addUnapplied_pending (s : State) (n : Nat) : (s.addUnapplied n).pending = s.pending := by
  rw [State.addUnapplied_eq]

/-! ### undefer -/

theorem State.undefer_eq (s : State) (d : DevNum) :
    (s.undefer d) =
      { s with profiles := (s.undefer d).profiles } := by
  unfold State.undefer
  split <;> rfl

@[simp] theorem State.undefer_hubState (s : State) (d : DevNum) : (s.undefer d).hubState = s.hubState := by
  rw [State.undefer_eq]
@[simp] theorem State.undefer_origin (s : State) (d : DevNum) : (s.undefer d).origin = s.origin := by
  rw [State.undefer_eq]
@[simp] theorem State.undefer_inputs (s : State) (d : DevNum) : (s.undefer d).inputs = s.inputs := by
  rw [State.undefer_eq]
@[simp] theorem State.undefer_devices (s : State) (d : DevNum) : (s.undefer d).devices = s.devices := by
  rw [State.undefer_eq]
@[simp] theorem State.undefer_cursor (s : State) (d : DevNum) : (s.undefer d).cursor = s.cursor := by
  rw [State.undefer_eq]
@[simp] theorem State.undefer_claims (s : State) (d : DevNum) : (s.undefer d).claims = s.claims := by
  rw [State.undefer_eq]
@[simp] theorem State.undefer_late (s : State) (d : DevNum) : (s.undefer d).late = s.late := by
  rw [State.undefer_eq]
@[simp] theorem State.undefer_txn (s : State) (d : DevNum) : (s.undefer d).txn = s.txn := by
  rw [State.undefer_eq]
@[simp] theorem State.undefer_link (s : State) (d : DevNum) : (s.undefer d).link = s.link := by
  rw [State.undefer_eq]
@[simp] theorem State.undefer_rotation (s : State) (d : DevNum) : (s.undefer d).rotation = s.rotation := by
  rw [State.undefer_eq]
@[simp] theorem State.undefer_ports (s : State) (d : DevNum) : (s.undefer d).ports = s.ports := by
  rw [State.undefer_eq]
@[simp] theorem State.undefer_portRotation (s : State) (d : DevNum) :
    (s.undefer d).portRotation = s.portRotation := by
  rw [State.undefer_eq]
@[simp] theorem State.undefer_portH (s : State) (d : DevNum) : (s.undefer d).portH = s.portH := by
  rw [State.undefer_eq]
@[simp] theorem State.undefer_portL (s : State) (d : DevNum) : (s.undefer d).portL = s.portL := by
  rw [State.undefer_eq]
@[simp] theorem State.undefer_bankA (s : State) (d : DevNum) : (s.undefer d).bankA = s.bankA := by
  rw [State.undefer_eq]
@[simp] theorem State.undefer_bankB (s : State) (d : DevNum) : (s.undefer d).bankB = s.bankB := by
  rw [State.undefer_eq]
@[simp] theorem State.undefer_save (s : State) (d : DevNum) : (s.undefer d).save = s.save := by
  rw [State.undefer_eq]
@[simp] theorem State.undefer_pending (s : State) (d : DevNum) : (s.undefer d).pending = s.pending := by
  rw [State.undefer_eq]

/-! ### completionTest -/

theorem State.completionTest_eq (s : State) :
    s.completionTest =
      { s with ports := s.completionTest.ports, profiles := s.completionTest.profiles } := by
  unfold State.completionTest
  split
  · split
    · rfl
    · apply State.ext_fields <;> simp
  · rfl

@[simp] theorem State.completionTest_hubState (s : State) : s.completionTest.hubState = s.hubState := by
  rw [State.completionTest_eq]
@[simp] theorem State.completionTest_origin (s : State) : s.completionTest.origin = s.origin := by
  rw [State.completionTest_eq]
@[simp] theorem State.completionTest_inputs (s : State) : s.completionTest.inputs = s.inputs := by
  rw [State.completionTest_eq]
@[simp] theorem State.completionTest_devices (s : State) : s.completionTest.devices = s.devices := by
  rw [State.completionTest_eq]
@[simp] theorem State.completionTest_cursor (s : State) : s.completionTest.cursor = s.cursor := by
  rw [State.completionTest_eq]
@[simp] theorem State.completionTest_claims (s : State) : s.completionTest.claims = s.claims := by
  rw [State.completionTest_eq]
@[simp] theorem State.completionTest_late (s : State) : s.completionTest.late = s.late := by
  rw [State.completionTest_eq]
@[simp] theorem State.completionTest_txn (s : State) : s.completionTest.txn = s.txn := by
  rw [State.completionTest_eq]
@[simp] theorem State.completionTest_link (s : State) : s.completionTest.link = s.link := by
  rw [State.completionTest_eq]
@[simp] theorem State.completionTest_rotation (s : State) : s.completionTest.rotation = s.rotation := by
  rw [State.completionTest_eq]
@[simp] theorem State.completionTest_portRotation (s : State) : s.completionTest.portRotation = s.portRotation := by
  rw [State.completionTest_eq]
@[simp] theorem State.completionTest_portH (s : State) : s.completionTest.portH = s.portH := by
  rw [State.completionTest_eq]
@[simp] theorem State.completionTest_portL (s : State) : s.completionTest.portL = s.portL := by
  rw [State.completionTest_eq]
@[simp] theorem State.completionTest_bankA (s : State) : s.completionTest.bankA = s.bankA := by
  rw [State.completionTest_eq]
@[simp] theorem State.completionTest_bankB (s : State) : s.completionTest.bankB = s.bankB := by
  rw [State.completionTest_eq]
@[simp] theorem State.completionTest_save (s : State) : s.completionTest.save = s.save := by
  rw [State.completionTest_eq]
@[simp] theorem State.completionTest_pending (s : State) : s.completionTest.pending = s.pending := by
  rw [State.completionTest_eq]

/-! ### answerSettled -/

theorem State.answerSettled_eq (s : State) (b : State) (d : DevNum) :
    (State.answerSettled b d s) =
      { s with ports := (State.answerSettled b d s).ports } := by
  unfold State.answerSettled
  split
  · split <;> rfl
  · rfl

@[simp] theorem State.answerSettled_hubState (s : State) (b : State) (d : DevNum) :
    (State.answerSettled b d s).hubState = s.hubState := by
  rw [State.answerSettled_eq]
@[simp] theorem State.answerSettled_origin (s : State) (b : State) (d : DevNum) :
    (State.answerSettled b d s).origin = s.origin := by
  rw [State.answerSettled_eq]
@[simp] theorem State.answerSettled_inputs (s : State) (b : State) (d : DevNum) :
    (State.answerSettled b d s).inputs = s.inputs := by
  rw [State.answerSettled_eq]
@[simp] theorem State.answerSettled_devices (s : State) (b : State) (d : DevNum) :
    (State.answerSettled b d s).devices = s.devices := by
  rw [State.answerSettled_eq]
@[simp] theorem State.answerSettled_cursor (s : State) (b : State) (d : DevNum) :
    (State.answerSettled b d s).cursor = s.cursor := by
  rw [State.answerSettled_eq]
@[simp] theorem State.answerSettled_claims (s : State) (b : State) (d : DevNum) :
    (State.answerSettled b d s).claims = s.claims := by
  rw [State.answerSettled_eq]
@[simp] theorem State.answerSettled_late (s : State) (b : State) (d : DevNum) :
    (State.answerSettled b d s).late = s.late := by
  rw [State.answerSettled_eq]
@[simp] theorem State.answerSettled_profiles (s : State) (b : State) (d : DevNum) :
    (State.answerSettled b d s).profiles = s.profiles := by
  rw [State.answerSettled_eq]
@[simp] theorem State.answerSettled_txn (s : State) (b : State) (d : DevNum) :
    (State.answerSettled b d s).txn = s.txn := by
  rw [State.answerSettled_eq]
@[simp] theorem State.answerSettled_link (s : State) (b : State) (d : DevNum) :
    (State.answerSettled b d s).link = s.link := by
  rw [State.answerSettled_eq]
@[simp] theorem State.answerSettled_rotation (s : State) (b : State) (d : DevNum) :
    (State.answerSettled b d s).rotation = s.rotation := by
  rw [State.answerSettled_eq]
@[simp] theorem State.answerSettled_portRotation (s : State) (b : State) (d : DevNum) :
    (State.answerSettled b d s).portRotation = s.portRotation := by
  rw [State.answerSettled_eq]
@[simp] theorem State.answerSettled_portH (s : State) (b : State) (d : DevNum) :
    (State.answerSettled b d s).portH = s.portH := by
  rw [State.answerSettled_eq]
@[simp] theorem State.answerSettled_portL (s : State) (b : State) (d : DevNum) :
    (State.answerSettled b d s).portL = s.portL := by
  rw [State.answerSettled_eq]
@[simp] theorem State.answerSettled_bankA (s : State) (b : State) (d : DevNum) :
    (State.answerSettled b d s).bankA = s.bankA := by
  rw [State.answerSettled_eq]
@[simp] theorem State.answerSettled_bankB (s : State) (b : State) (d : DevNum) :
    (State.answerSettled b d s).bankB = s.bankB := by
  rw [State.answerSettled_eq]
@[simp] theorem State.answerSettled_save (s : State) (b : State) (d : DevNum) :
    (State.answerSettled b d s).save = s.save := by
  rw [State.answerSettled_eq]
@[simp] theorem State.answerSettled_pending (s : State) (b : State) (d : DevNum) :
    (State.answerSettled b d s).pending = s.pending := by
  rw [State.answerSettled_eq]

/-! ### clearMarks -/

theorem State.clearMarks_eq (s : State) (d : DevNum) :
    (s.clearMarks d) =
      { s with devices := (s.clearMarks d).devices, ports := (s.clearMarks d).ports, profiles := (s.clearMarks d).profiles } := by
  unfold State.clearMarks
  split
  · split
    · rfl
    · rw [State.completionTest_eq, State.addUnapplied_eq]
      rfl
  · rfl

@[simp] theorem State.clearMarks_hubState (s : State) (d : DevNum) : (s.clearMarks d).hubState = s.hubState := by
  rw [State.clearMarks_eq]
@[simp] theorem State.clearMarks_origin (s : State) (d : DevNum) : (s.clearMarks d).origin = s.origin := by
  rw [State.clearMarks_eq]
@[simp] theorem State.clearMarks_inputs (s : State) (d : DevNum) : (s.clearMarks d).inputs = s.inputs := by
  rw [State.clearMarks_eq]
@[simp] theorem State.clearMarks_cursor (s : State) (d : DevNum) : (s.clearMarks d).cursor = s.cursor := by
  rw [State.clearMarks_eq]
@[simp] theorem State.clearMarks_claims (s : State) (d : DevNum) : (s.clearMarks d).claims = s.claims := by
  rw [State.clearMarks_eq]
@[simp] theorem State.clearMarks_late (s : State) (d : DevNum) : (s.clearMarks d).late = s.late := by
  rw [State.clearMarks_eq]
@[simp] theorem State.clearMarks_txn (s : State) (d : DevNum) : (s.clearMarks d).txn = s.txn := by
  rw [State.clearMarks_eq]
@[simp] theorem State.clearMarks_link (s : State) (d : DevNum) : (s.clearMarks d).link = s.link := by
  rw [State.clearMarks_eq]
@[simp] theorem State.clearMarks_rotation (s : State) (d : DevNum) : (s.clearMarks d).rotation = s.rotation := by
  rw [State.clearMarks_eq]
@[simp] theorem State.clearMarks_portRotation (s : State) (d : DevNum) :
    (s.clearMarks d).portRotation = s.portRotation := by
  rw [State.clearMarks_eq]
@[simp] theorem State.clearMarks_portH (s : State) (d : DevNum) : (s.clearMarks d).portH = s.portH := by
  rw [State.clearMarks_eq]
@[simp] theorem State.clearMarks_portL (s : State) (d : DevNum) : (s.clearMarks d).portL = s.portL := by
  rw [State.clearMarks_eq]
@[simp] theorem State.clearMarks_bankA (s : State) (d : DevNum) : (s.clearMarks d).bankA = s.bankA := by
  rw [State.clearMarks_eq]
@[simp] theorem State.clearMarks_bankB (s : State) (d : DevNum) : (s.clearMarks d).bankB = s.bankB := by
  rw [State.clearMarks_eq]
@[simp] theorem State.clearMarks_save (s : State) (d : DevNum) : (s.clearMarks d).save = s.save := by
  rw [State.clearMarks_eq]
@[simp] theorem State.clearMarks_pending (s : State) (d : DevNum) : (s.clearMarks d).pending = s.pending := by
  rw [State.clearMarks_eq]

/-! ### switchTo -/

theorem State.switchTo_eq (s : State) (P : Profile) :
    (s.switchTo P) =
      { s with devices := (s.switchTo P).devices, ports := (s.switchTo P).ports, profiles := (s.switchTo P).profiles } := by
  unfold State.switchTo
  rw [State.reexamineAll_eq]
  simp only []
  split <;> rfl

@[simp] theorem State.switchTo_hubState (s : State) (P : Profile) : (s.switchTo P).hubState = s.hubState := by
  rw [State.switchTo_eq]
@[simp] theorem State.switchTo_origin (s : State) (P : Profile) : (s.switchTo P).origin = s.origin := by
  rw [State.switchTo_eq]
@[simp] theorem State.switchTo_inputs (s : State) (P : Profile) : (s.switchTo P).inputs = s.inputs := by
  rw [State.switchTo_eq]
@[simp] theorem State.switchTo_cursor (s : State) (P : Profile) : (s.switchTo P).cursor = s.cursor := by
  rw [State.switchTo_eq]
@[simp] theorem State.switchTo_claims (s : State) (P : Profile) : (s.switchTo P).claims = s.claims := by
  rw [State.switchTo_eq]
@[simp] theorem State.switchTo_late (s : State) (P : Profile) : (s.switchTo P).late = s.late := by
  rw [State.switchTo_eq]
@[simp] theorem State.switchTo_txn (s : State) (P : Profile) : (s.switchTo P).txn = s.txn := by
  rw [State.switchTo_eq]
@[simp] theorem State.switchTo_link (s : State) (P : Profile) : (s.switchTo P).link = s.link := by
  rw [State.switchTo_eq]
@[simp] theorem State.switchTo_rotation (s : State) (P : Profile) : (s.switchTo P).rotation = s.rotation := by
  rw [State.switchTo_eq]
@[simp] theorem State.switchTo_portRotation (s : State) (P : Profile) :
    (s.switchTo P).portRotation = s.portRotation := by
  rw [State.switchTo_eq]
@[simp] theorem State.switchTo_portH (s : State) (P : Profile) : (s.switchTo P).portH = s.portH := by
  rw [State.switchTo_eq]
@[simp] theorem State.switchTo_portL (s : State) (P : Profile) : (s.switchTo P).portL = s.portL := by
  rw [State.switchTo_eq]
@[simp] theorem State.switchTo_bankA (s : State) (P : Profile) : (s.switchTo P).bankA = s.bankA := by
  rw [State.switchTo_eq]
@[simp] theorem State.switchTo_bankB (s : State) (P : Profile) : (s.switchTo P).bankB = s.bankB := by
  rw [State.switchTo_eq]
@[simp] theorem State.switchTo_save (s : State) (P : Profile) : (s.switchTo P).save = s.save := by
  rw [State.switchTo_eq]
@[simp] theorem State.switchTo_pending (s : State) (P : Profile) : (s.switchTo P).pending = s.pending := by
  rw [State.switchTo_eq]

/-! ### lineSwitch -/

theorem State.lineSwitch_eq (s : State) (P : Profile) :
    (s.lineSwitch P) =
      { s with devices := (s.lineSwitch P).devices, ports := (s.lineSwitch P).ports, profiles := (s.lineSwitch P).profiles } := by
  unfold State.lineSwitch
  split
  · rfl
  · rw [State.completionTest_eq, State.switchTo_eq]

@[simp] theorem State.lineSwitch_hubState (s : State) (P : Profile) : (s.lineSwitch P).hubState = s.hubState := by
  rw [State.lineSwitch_eq]
@[simp] theorem State.lineSwitch_origin (s : State) (P : Profile) : (s.lineSwitch P).origin = s.origin := by
  rw [State.lineSwitch_eq]
@[simp] theorem State.lineSwitch_inputs (s : State) (P : Profile) : (s.lineSwitch P).inputs = s.inputs := by
  rw [State.lineSwitch_eq]
@[simp] theorem State.lineSwitch_cursor (s : State) (P : Profile) : (s.lineSwitch P).cursor = s.cursor := by
  rw [State.lineSwitch_eq]
@[simp] theorem State.lineSwitch_claims (s : State) (P : Profile) : (s.lineSwitch P).claims = s.claims := by
  rw [State.lineSwitch_eq]
@[simp] theorem State.lineSwitch_late (s : State) (P : Profile) : (s.lineSwitch P).late = s.late := by
  rw [State.lineSwitch_eq]
@[simp] theorem State.lineSwitch_txn (s : State) (P : Profile) : (s.lineSwitch P).txn = s.txn := by
  rw [State.lineSwitch_eq]
@[simp] theorem State.lineSwitch_link (s : State) (P : Profile) : (s.lineSwitch P).link = s.link := by
  rw [State.lineSwitch_eq]
@[simp] theorem State.lineSwitch_rotation (s : State) (P : Profile) : (s.lineSwitch P).rotation = s.rotation := by
  rw [State.lineSwitch_eq]
@[simp] theorem State.lineSwitch_portRotation (s : State) (P : Profile) :
    (s.lineSwitch P).portRotation = s.portRotation := by
  rw [State.lineSwitch_eq]
@[simp] theorem State.lineSwitch_portH (s : State) (P : Profile) : (s.lineSwitch P).portH = s.portH := by
  rw [State.lineSwitch_eq]
@[simp] theorem State.lineSwitch_portL (s : State) (P : Profile) : (s.lineSwitch P).portL = s.portL := by
  rw [State.lineSwitch_eq]
@[simp] theorem State.lineSwitch_bankA (s : State) (P : Profile) : (s.lineSwitch P).bankA = s.bankA := by
  rw [State.lineSwitch_eq]
@[simp] theorem State.lineSwitch_bankB (s : State) (P : Profile) : (s.lineSwitch P).bankB = s.bankB := by
  rw [State.lineSwitch_eq]
@[simp] theorem State.lineSwitch_save (s : State) (P : Profile) : (s.lineSwitch P).save = s.save := by
  rw [State.lineSwitch_eq]
@[simp] theorem State.lineSwitch_pending (s : State) (P : Profile) : (s.lineSwitch P).pending = s.pending := by
  rw [State.lineSwitch_eq]

/-! ### lineChange -/

theorem State.lineChange_eq (s : State) :
    s.lineChange =
      { s with devices := s.lineChange.devices, ports := s.lineChange.ports, profiles := s.lineChange.profiles } := by
  unfold State.lineChange
  split
  · simp only []
    split
    · rw [State.lineSwitch_eq]
    · rfl
  · rfl

@[simp] theorem State.lineChange_hubState (s : State) : s.lineChange.hubState = s.hubState := by
  rw [State.lineChange_eq]
@[simp] theorem State.lineChange_origin (s : State) : s.lineChange.origin = s.origin := by
  rw [State.lineChange_eq]
@[simp] theorem State.lineChange_inputs (s : State) : s.lineChange.inputs = s.inputs := by
  rw [State.lineChange_eq]
@[simp] theorem State.lineChange_cursor (s : State) : s.lineChange.cursor = s.cursor := by
  rw [State.lineChange_eq]
@[simp] theorem State.lineChange_claims (s : State) : s.lineChange.claims = s.claims := by
  rw [State.lineChange_eq]
@[simp] theorem State.lineChange_late (s : State) : s.lineChange.late = s.late := by
  rw [State.lineChange_eq]
@[simp] theorem State.lineChange_txn (s : State) : s.lineChange.txn = s.txn := by
  rw [State.lineChange_eq]
@[simp] theorem State.lineChange_link (s : State) : s.lineChange.link = s.link := by
  rw [State.lineChange_eq]
@[simp] theorem State.lineChange_rotation (s : State) : s.lineChange.rotation = s.rotation := by
  rw [State.lineChange_eq]
@[simp] theorem State.lineChange_portRotation (s : State) : s.lineChange.portRotation = s.portRotation := by
  rw [State.lineChange_eq]
@[simp] theorem State.lineChange_portH (s : State) : s.lineChange.portH = s.portH := by
  rw [State.lineChange_eq]
@[simp] theorem State.lineChange_portL (s : State) : s.lineChange.portL = s.portL := by
  rw [State.lineChange_eq]
@[simp] theorem State.lineChange_bankA (s : State) : s.lineChange.bankA = s.bankA := by
  rw [State.lineChange_eq]
@[simp] theorem State.lineChange_bankB (s : State) : s.lineChange.bankB = s.bankB := by
  rw [State.lineChange_eq]
@[simp] theorem State.lineChange_save (s : State) : s.lineChange.save = s.save := by
  rw [State.lineChange_eq]
@[simp] theorem State.lineChange_pending (s : State) : s.lineChange.pending = s.pending := by
  rw [State.lineChange_eq]

/-! ### endClaim -/

theorem State.endClaim_eq (s : State) (d : DevNum) (f : Entry → Entry) :
    (s.endClaim d f) =
      { s with devices := (s.endClaim d f).devices, claims := (s.endClaim d f).claims, ports := (s.endClaim d f).ports, profiles := (s.endClaim d f).profiles } := by
  unfold State.endClaim
  split
  · simp only []
    split
    · rw [State.completionTest_eq, State.addUnapplied_eq, State.undefer_eq, State.reexamine_eq]
      rfl
    · rw [State.reexamine_eq]
      rfl
  · rfl

@[simp] theorem State.endClaim_hubState (s : State) (d : DevNum) (f : Entry → Entry) :
    (s.endClaim d f).hubState = s.hubState := by
  rw [State.endClaim_eq]
@[simp] theorem State.endClaim_origin (s : State) (d : DevNum) (f : Entry → Entry) :
    (s.endClaim d f).origin = s.origin := by
  rw [State.endClaim_eq]
@[simp] theorem State.endClaim_inputs (s : State) (d : DevNum) (f : Entry → Entry) :
    (s.endClaim d f).inputs = s.inputs := by
  rw [State.endClaim_eq]
@[simp] theorem State.endClaim_cursor (s : State) (d : DevNum) (f : Entry → Entry) :
    (s.endClaim d f).cursor = s.cursor := by
  rw [State.endClaim_eq]
@[simp] theorem State.endClaim_late (s : State) (d : DevNum) (f : Entry → Entry) :
    (s.endClaim d f).late = s.late := by
  rw [State.endClaim_eq]
@[simp] theorem State.endClaim_txn (s : State) (d : DevNum) (f : Entry → Entry) : (s.endClaim d f).txn = s.txn := by
  rw [State.endClaim_eq]
@[simp] theorem State.endClaim_link (s : State) (d : DevNum) (f : Entry → Entry) :
    (s.endClaim d f).link = s.link := by
  rw [State.endClaim_eq]
@[simp] theorem State.endClaim_rotation (s : State) (d : DevNum) (f : Entry → Entry) :
    (s.endClaim d f).rotation = s.rotation := by
  rw [State.endClaim_eq]
@[simp] theorem State.endClaim_portRotation (s : State) (d : DevNum) (f : Entry → Entry) :
    (s.endClaim d f).portRotation = s.portRotation := by
  rw [State.endClaim_eq]
@[simp] theorem State.endClaim_portH (s : State) (d : DevNum) (f : Entry → Entry) :
    (s.endClaim d f).portH = s.portH := by
  rw [State.endClaim_eq]
@[simp] theorem State.endClaim_portL (s : State) (d : DevNum) (f : Entry → Entry) :
    (s.endClaim d f).portL = s.portL := by
  rw [State.endClaim_eq]
@[simp] theorem State.endClaim_bankA (s : State) (d : DevNum) (f : Entry → Entry) :
    (s.endClaim d f).bankA = s.bankA := by
  rw [State.endClaim_eq]
@[simp] theorem State.endClaim_bankB (s : State) (d : DevNum) (f : Entry → Entry) :
    (s.endClaim d f).bankB = s.bankB := by
  rw [State.endClaim_eq]
@[simp] theorem State.endClaim_save (s : State) (d : DevNum) (f : Entry → Entry) :
    (s.endClaim d f).save = s.save := by
  rw [State.endClaim_eq]
@[simp] theorem State.endClaim_pending (s : State) (d : DevNum) (f : Entry → Entry) :
    (s.endClaim d f).pending = s.pending := by
  rw [State.endClaim_eq]

/-! ### expireClaim -/

theorem State.expireClaim_eq (s : State) (d : DevNum) :
    (s.expireClaim d) =
      { s with devices := (s.expireClaim d).devices, claims := (s.expireClaim d).claims, late := (s.expireClaim d).late, ports := (s.expireClaim d).ports, profiles := (s.expireClaim d).profiles } := by
  unfold State.expireClaim
  split
  · rw [State.endClaim_eq]
    rfl
  · rfl

@[simp] theorem State.expireClaim_hubState (s : State) (d : DevNum) : (s.expireClaim d).hubState = s.hubState := by
  rw [State.expireClaim_eq]
@[simp] theorem State.expireClaim_origin (s : State) (d : DevNum) : (s.expireClaim d).origin = s.origin := by
  rw [State.expireClaim_eq]
@[simp] theorem State.expireClaim_inputs (s : State) (d : DevNum) : (s.expireClaim d).inputs = s.inputs := by
  rw [State.expireClaim_eq]
@[simp] theorem State.expireClaim_cursor (s : State) (d : DevNum) : (s.expireClaim d).cursor = s.cursor := by
  rw [State.expireClaim_eq]
@[simp] theorem State.expireClaim_txn (s : State) (d : DevNum) : (s.expireClaim d).txn = s.txn := by
  rw [State.expireClaim_eq]
@[simp] theorem State.expireClaim_link (s : State) (d : DevNum) : (s.expireClaim d).link = s.link := by
  rw [State.expireClaim_eq]
@[simp] theorem State.expireClaim_rotation (s : State) (d : DevNum) : (s.expireClaim d).rotation = s.rotation := by
  rw [State.expireClaim_eq]
@[simp] theorem State.expireClaim_portRotation (s : State) (d : DevNum) :
    (s.expireClaim d).portRotation = s.portRotation := by
  rw [State.expireClaim_eq]
@[simp] theorem State.expireClaim_portH (s : State) (d : DevNum) : (s.expireClaim d).portH = s.portH := by
  rw [State.expireClaim_eq]
@[simp] theorem State.expireClaim_portL (s : State) (d : DevNum) : (s.expireClaim d).portL = s.portL := by
  rw [State.expireClaim_eq]
@[simp] theorem State.expireClaim_bankA (s : State) (d : DevNum) : (s.expireClaim d).bankA = s.bankA := by
  rw [State.expireClaim_eq]
@[simp] theorem State.expireClaim_bankB (s : State) (d : DevNum) : (s.expireClaim d).bankB = s.bankB := by
  rw [State.expireClaim_eq]
@[simp] theorem State.expireClaim_save (s : State) (d : DevNum) : (s.expireClaim d).save = s.save := by
  rw [State.expireClaim_eq]
@[simp] theorem State.expireClaim_pending (s : State) (d : DevNum) : (s.expireClaim d).pending = s.pending := by
  rw [State.expireClaim_eq]

/-! ### breakClaim -/

theorem State.breakClaim_eq (s : State) (d : DevNum) :
    (s.breakClaim d) =
      { s with devices := (s.breakClaim d).devices, claims := (s.breakClaim d).claims, late := (s.breakClaim d).late, ports := (s.breakClaim d).ports, profiles := (s.breakClaim d).profiles } := by
  unfold State.breakClaim
  split
  · rw [State.endClaim_eq]
    rfl
  · rfl

@[simp] theorem State.breakClaim_hubState (s : State) (d : DevNum) : (s.breakClaim d).hubState = s.hubState := by
  rw [State.breakClaim_eq]
@[simp] theorem State.breakClaim_origin (s : State) (d : DevNum) : (s.breakClaim d).origin = s.origin := by
  rw [State.breakClaim_eq]
@[simp] theorem State.breakClaim_inputs (s : State) (d : DevNum) : (s.breakClaim d).inputs = s.inputs := by
  rw [State.breakClaim_eq]
@[simp] theorem State.breakClaim_cursor (s : State) (d : DevNum) : (s.breakClaim d).cursor = s.cursor := by
  rw [State.breakClaim_eq]
@[simp] theorem State.breakClaim_txn (s : State) (d : DevNum) : (s.breakClaim d).txn = s.txn := by
  rw [State.breakClaim_eq]
@[simp] theorem State.breakClaim_link (s : State) (d : DevNum) : (s.breakClaim d).link = s.link := by
  rw [State.breakClaim_eq]
@[simp] theorem State.breakClaim_rotation (s : State) (d : DevNum) : (s.breakClaim d).rotation = s.rotation := by
  rw [State.breakClaim_eq]
@[simp] theorem State.breakClaim_portRotation (s : State) (d : DevNum) :
    (s.breakClaim d).portRotation = s.portRotation := by
  rw [State.breakClaim_eq]
@[simp] theorem State.breakClaim_portH (s : State) (d : DevNum) : (s.breakClaim d).portH = s.portH := by
  rw [State.breakClaim_eq]
@[simp] theorem State.breakClaim_portL (s : State) (d : DevNum) : (s.breakClaim d).portL = s.portL := by
  rw [State.breakClaim_eq]
@[simp] theorem State.breakClaim_bankA (s : State) (d : DevNum) : (s.breakClaim d).bankA = s.bankA := by
  rw [State.breakClaim_eq]
@[simp] theorem State.breakClaim_bankB (s : State) (d : DevNum) : (s.breakClaim d).bankB = s.bankB := by
  rw [State.breakClaim_eq]
@[simp] theorem State.breakClaim_save (s : State) (d : DevNum) : (s.breakClaim d).save = s.save := by
  rw [State.breakClaim_eq]
@[simp] theorem State.breakClaim_pending (s : State) (d : DevNum) : (s.breakClaim d).pending = s.pending := by
  rw [State.breakClaim_eq]

/-! ### fence -/

theorem State.fence_eq (s : State) (d : DevNum) :
    (s.fence d) =
      { s with devices := (s.fence d).devices, ports := (s.fence d).ports, profiles := (s.fence d).profiles } := by
  simp only [State.fence]
  rw [State.clearMarks_eq]
  simp [State.answer, State.answerPort, State.post, State.postTo, State.modPort]

@[simp] theorem State.fence_hubState (s : State) (d : DevNum) : (s.fence d).hubState = s.hubState := by
  rw [State.fence_eq]
@[simp] theorem State.fence_origin (s : State) (d : DevNum) : (s.fence d).origin = s.origin := by
  rw [State.fence_eq]
@[simp] theorem State.fence_inputs (s : State) (d : DevNum) : (s.fence d).inputs = s.inputs := by
  rw [State.fence_eq]
@[simp] theorem State.fence_cursor (s : State) (d : DevNum) : (s.fence d).cursor = s.cursor := by
  rw [State.fence_eq]
@[simp] theorem State.fence_claims (s : State) (d : DevNum) : (s.fence d).claims = s.claims := by
  rw [State.fence_eq]
@[simp] theorem State.fence_late (s : State) (d : DevNum) : (s.fence d).late = s.late := by
  rw [State.fence_eq]
@[simp] theorem State.fence_txn (s : State) (d : DevNum) : (s.fence d).txn = s.txn := by
  rw [State.fence_eq]
@[simp] theorem State.fence_link (s : State) (d : DevNum) : (s.fence d).link = s.link := by
  rw [State.fence_eq]
@[simp] theorem State.fence_rotation (s : State) (d : DevNum) : (s.fence d).rotation = s.rotation := by
  rw [State.fence_eq]
@[simp] theorem State.fence_portRotation (s : State) (d : DevNum) : (s.fence d).portRotation = s.portRotation := by
  rw [State.fence_eq]
@[simp] theorem State.fence_portH (s : State) (d : DevNum) : (s.fence d).portH = s.portH := by
  rw [State.fence_eq]
@[simp] theorem State.fence_portL (s : State) (d : DevNum) : (s.fence d).portL = s.portL := by
  rw [State.fence_eq]
@[simp] theorem State.fence_bankA (s : State) (d : DevNum) : (s.fence d).bankA = s.bankA := by
  rw [State.fence_eq]
@[simp] theorem State.fence_bankB (s : State) (d : DevNum) : (s.fence d).bankB = s.bankB := by
  rw [State.fence_eq]
@[simp] theorem State.fence_save (s : State) (d : DevNum) : (s.fence d).save = s.save := by
  rw [State.fence_eq]
@[simp] theorem State.fence_pending (s : State) (d : DevNum) : (s.fence d).pending = s.pending := by
  rw [State.fence_eq]

/-! ### declareLoss -/

theorem State.declareLoss_eq (s : State) (d : DevNum) :
    (s.declareLoss d) =
      { s with devices := (s.declareLoss d).devices, claims := (s.declareLoss d).claims, late := (s.declareLoss d).late, ports := (s.declareLoss d).ports, profiles := (s.declareLoss d).profiles } := by
  unfold State.declareLoss
  simp only []
  split
  · split
    · rw [State.fence_eq, State.breakClaim_eq]
      simp [State.post, State.postTo, State.modPort]
    · rw [State.beginLoad_eq, State.breakClaim_eq]
      simp [State.post, State.postTo, State.modPort]
  · rw [State.breakClaim_eq]
    simp [State.post, State.postTo, State.modPort]

@[simp] theorem State.declareLoss_hubState (s : State) (d : DevNum) : (s.declareLoss d).hubState = s.hubState := by
  rw [State.declareLoss_eq]
@[simp] theorem State.declareLoss_origin (s : State) (d : DevNum) : (s.declareLoss d).origin = s.origin := by
  rw [State.declareLoss_eq]
@[simp] theorem State.declareLoss_inputs (s : State) (d : DevNum) : (s.declareLoss d).inputs = s.inputs := by
  rw [State.declareLoss_eq]
@[simp] theorem State.declareLoss_cursor (s : State) (d : DevNum) : (s.declareLoss d).cursor = s.cursor := by
  rw [State.declareLoss_eq]
@[simp] theorem State.declareLoss_txn (s : State) (d : DevNum) : (s.declareLoss d).txn = s.txn := by
  rw [State.declareLoss_eq]
@[simp] theorem State.declareLoss_link (s : State) (d : DevNum) : (s.declareLoss d).link = s.link := by
  rw [State.declareLoss_eq]
@[simp] theorem State.declareLoss_rotation (s : State) (d : DevNum) : (s.declareLoss d).rotation = s.rotation := by
  rw [State.declareLoss_eq]
@[simp] theorem State.declareLoss_portRotation (s : State) (d : DevNum) :
    (s.declareLoss d).portRotation = s.portRotation := by
  rw [State.declareLoss_eq]
@[simp] theorem State.declareLoss_portH (s : State) (d : DevNum) : (s.declareLoss d).portH = s.portH := by
  rw [State.declareLoss_eq]
@[simp] theorem State.declareLoss_portL (s : State) (d : DevNum) : (s.declareLoss d).portL = s.portL := by
  rw [State.declareLoss_eq]
@[simp] theorem State.declareLoss_bankA (s : State) (d : DevNum) : (s.declareLoss d).bankA = s.bankA := by
  rw [State.declareLoss_eq]
@[simp] theorem State.declareLoss_bankB (s : State) (d : DevNum) : (s.declareLoss d).bankB = s.bankB := by
  rw [State.declareLoss_eq]
@[simp] theorem State.declareLoss_save (s : State) (d : DevNum) : (s.declareLoss d).save = s.save := by
  rw [State.declareLoss_eq]
@[simp] theorem State.declareLoss_pending (s : State) (d : DevNum) : (s.declareLoss d).pending = s.pending := by
  rw [State.declareLoss_eq]

/-! ### confirmLoad -/

theorem State.confirmLoad_eq (s : State) (d : DevNum) :
    (s.confirmLoad d) =
      { s with devices := (s.confirmLoad d).devices, ports := (s.confirmLoad d).ports } := by
  unfold State.confirmLoad
  split
  · rw [State.answerSettled_eq]
    rfl
  · rfl

@[simp] theorem State.confirmLoad_hubState (s : State) (d : DevNum) : (s.confirmLoad d).hubState = s.hubState := by
  rw [State.confirmLoad_eq]
@[simp] theorem State.confirmLoad_origin (s : State) (d : DevNum) : (s.confirmLoad d).origin = s.origin := by
  rw [State.confirmLoad_eq]
@[simp] theorem State.confirmLoad_inputs (s : State) (d : DevNum) : (s.confirmLoad d).inputs = s.inputs := by
  rw [State.confirmLoad_eq]
@[simp] theorem State.confirmLoad_cursor (s : State) (d : DevNum) : (s.confirmLoad d).cursor = s.cursor := by
  rw [State.confirmLoad_eq]
@[simp] theorem State.confirmLoad_claims (s : State) (d : DevNum) : (s.confirmLoad d).claims = s.claims := by
  rw [State.confirmLoad_eq]
@[simp] theorem State.confirmLoad_late (s : State) (d : DevNum) : (s.confirmLoad d).late = s.late := by
  rw [State.confirmLoad_eq]
@[simp] theorem State.confirmLoad_profiles (s : State) (d : DevNum) : (s.confirmLoad d).profiles = s.profiles := by
  rw [State.confirmLoad_eq]
@[simp] theorem State.confirmLoad_txn (s : State) (d : DevNum) : (s.confirmLoad d).txn = s.txn := by
  rw [State.confirmLoad_eq]
@[simp] theorem State.confirmLoad_link (s : State) (d : DevNum) : (s.confirmLoad d).link = s.link := by
  rw [State.confirmLoad_eq]
@[simp] theorem State.confirmLoad_rotation (s : State) (d : DevNum) : (s.confirmLoad d).rotation = s.rotation := by
  rw [State.confirmLoad_eq]
@[simp] theorem State.confirmLoad_portRotation (s : State) (d : DevNum) :
    (s.confirmLoad d).portRotation = s.portRotation := by
  rw [State.confirmLoad_eq]
@[simp] theorem State.confirmLoad_portH (s : State) (d : DevNum) : (s.confirmLoad d).portH = s.portH := by
  rw [State.confirmLoad_eq]
@[simp] theorem State.confirmLoad_portL (s : State) (d : DevNum) : (s.confirmLoad d).portL = s.portL := by
  rw [State.confirmLoad_eq]
@[simp] theorem State.confirmLoad_bankA (s : State) (d : DevNum) : (s.confirmLoad d).bankA = s.bankA := by
  rw [State.confirmLoad_eq]
@[simp] theorem State.confirmLoad_bankB (s : State) (d : DevNum) : (s.confirmLoad d).bankB = s.bankB := by
  rw [State.confirmLoad_eq]
@[simp] theorem State.confirmLoad_save (s : State) (d : DevNum) : (s.confirmLoad d).save = s.save := by
  rw [State.confirmLoad_eq]
@[simp] theorem State.confirmLoad_pending (s : State) (d : DevNum) : (s.confirmLoad d).pending = s.pending := by
  rw [State.confirmLoad_eq]

/-! ### probeMatched -/

theorem State.probeMatched_eq (s : State) (d : DevNum) :
    (s.probeMatched d) =
      { s with devices := (s.probeMatched d).devices, ports := (s.probeMatched d).ports } := by
  unfold State.probeMatched
  split
  · split <;> first | rfl | (rw [State.answerSettled_eq]; rfl)
  · rfl

@[simp] theorem State.probeMatched_hubState (s : State) (d : DevNum) : (s.probeMatched d).hubState = s.hubState := by
  rw [State.probeMatched_eq]
@[simp] theorem State.probeMatched_origin (s : State) (d : DevNum) : (s.probeMatched d).origin = s.origin := by
  rw [State.probeMatched_eq]
@[simp] theorem State.probeMatched_inputs (s : State) (d : DevNum) : (s.probeMatched d).inputs = s.inputs := by
  rw [State.probeMatched_eq]
@[simp] theorem State.probeMatched_cursor (s : State) (d : DevNum) : (s.probeMatched d).cursor = s.cursor := by
  rw [State.probeMatched_eq]
@[simp] theorem State.probeMatched_claims (s : State) (d : DevNum) : (s.probeMatched d).claims = s.claims := by
  rw [State.probeMatched_eq]
@[simp] theorem State.probeMatched_late (s : State) (d : DevNum) : (s.probeMatched d).late = s.late := by
  rw [State.probeMatched_eq]
@[simp] theorem State.probeMatched_profiles (s : State) (d : DevNum) : (s.probeMatched d).profiles = s.profiles := by
  rw [State.probeMatched_eq]
@[simp] theorem State.probeMatched_txn (s : State) (d : DevNum) : (s.probeMatched d).txn = s.txn := by
  rw [State.probeMatched_eq]
@[simp] theorem State.probeMatched_link (s : State) (d : DevNum) : (s.probeMatched d).link = s.link := by
  rw [State.probeMatched_eq]
@[simp] theorem State.probeMatched_rotation (s : State) (d : DevNum) : (s.probeMatched d).rotation = s.rotation := by
  rw [State.probeMatched_eq]
@[simp] theorem State.probeMatched_portRotation (s : State) (d : DevNum) :
    (s.probeMatched d).portRotation = s.portRotation := by
  rw [State.probeMatched_eq]
@[simp] theorem State.probeMatched_portH (s : State) (d : DevNum) : (s.probeMatched d).portH = s.portH := by
  rw [State.probeMatched_eq]
@[simp] theorem State.probeMatched_portL (s : State) (d : DevNum) : (s.probeMatched d).portL = s.portL := by
  rw [State.probeMatched_eq]
@[simp] theorem State.probeMatched_bankA (s : State) (d : DevNum) : (s.probeMatched d).bankA = s.bankA := by
  rw [State.probeMatched_eq]
@[simp] theorem State.probeMatched_bankB (s : State) (d : DevNum) : (s.probeMatched d).bankB = s.bankB := by
  rw [State.probeMatched_eq]
@[simp] theorem State.probeMatched_save (s : State) (d : DevNum) : (s.probeMatched d).save = s.save := by
  rw [State.probeMatched_eq]
@[simp] theorem State.probeMatched_pending (s : State) (d : DevNum) : (s.probeMatched d).pending = s.pending := by
  rw [State.probeMatched_eq]

/-! ### judgeProbe -/

theorem State.judgeProbe_eq (s : State) (d : DevNum) (v : Option Value) :
    (s.judgeProbe d v) =
      { s with devices := (s.judgeProbe d v).devices, claims := (s.judgeProbe d v).claims, late := (s.judgeProbe d v).late, ports := (s.judgeProbe d v).ports, profiles := (s.judgeProbe d v).profiles } := by
  unfold State.judgeProbe
  split
  · split
    · split
      · rw [State.probeMatched_eq]
      · rw [State.declareLoss_eq]
    · rfl
  · rfl

@[simp] theorem State.judgeProbe_hubState (s : State) (d : DevNum) (v : Option Value) :
    (s.judgeProbe d v).hubState = s.hubState := by
  rw [State.judgeProbe_eq]
@[simp] theorem State.judgeProbe_origin (s : State) (d : DevNum) (v : Option Value) :
    (s.judgeProbe d v).origin = s.origin := by
  rw [State.judgeProbe_eq]
@[simp] theorem State.judgeProbe_inputs (s : State) (d : DevNum) (v : Option Value) :
    (s.judgeProbe d v).inputs = s.inputs := by
  rw [State.judgeProbe_eq]
@[simp] theorem State.judgeProbe_cursor (s : State) (d : DevNum) (v : Option Value) :
    (s.judgeProbe d v).cursor = s.cursor := by
  rw [State.judgeProbe_eq]
@[simp] theorem State.judgeProbe_txn (s : State) (d : DevNum) (v : Option Value) :
    (s.judgeProbe d v).txn = s.txn := by
  rw [State.judgeProbe_eq]
@[simp] theorem State.judgeProbe_link (s : State) (d : DevNum) (v : Option Value) :
    (s.judgeProbe d v).link = s.link := by
  rw [State.judgeProbe_eq]
@[simp] theorem State.judgeProbe_rotation (s : State) (d : DevNum) (v : Option Value) :
    (s.judgeProbe d v).rotation = s.rotation := by
  rw [State.judgeProbe_eq]
@[simp] theorem State.judgeProbe_portRotation (s : State) (d : DevNum) (v : Option Value) :
    (s.judgeProbe d v).portRotation = s.portRotation := by
  rw [State.judgeProbe_eq]
@[simp] theorem State.judgeProbe_portH (s : State) (d : DevNum) (v : Option Value) :
    (s.judgeProbe d v).portH = s.portH := by
  rw [State.judgeProbe_eq]
@[simp] theorem State.judgeProbe_portL (s : State) (d : DevNum) (v : Option Value) :
    (s.judgeProbe d v).portL = s.portL := by
  rw [State.judgeProbe_eq]
@[simp] theorem State.judgeProbe_bankA (s : State) (d : DevNum) (v : Option Value) :
    (s.judgeProbe d v).bankA = s.bankA := by
  rw [State.judgeProbe_eq]
@[simp] theorem State.judgeProbe_bankB (s : State) (d : DevNum) (v : Option Value) :
    (s.judgeProbe d v).bankB = s.bankB := by
  rw [State.judgeProbe_eq]
@[simp] theorem State.judgeProbe_save (s : State) (d : DevNum) (v : Option Value) :
    (s.judgeProbe d v).save = s.save := by
  rw [State.judgeProbe_eq]
@[simp] theorem State.judgeProbe_pending (s : State) (d : DevNum) (v : Option Value) :
    (s.judgeProbe d v).pending = s.pending := by
  rw [State.judgeProbe_eq]

/-! ### judgeConfirm -/

theorem State.judgeConfirm_eq (s : State) (d : DevNum) (v : Option Value) :
    (s.judgeConfirm d v) =
      { s with devices := (s.judgeConfirm d v).devices, claims := (s.judgeConfirm d v).claims, late := (s.judgeConfirm d v).late, ports := (s.judgeConfirm d v).ports, profiles := (s.judgeConfirm d v).profiles } := by
  unfold State.judgeConfirm
  split
  · split
    · rw [State.confirmLoad_eq]
    · rw [State.declareLoss_eq]
  · rfl

@[simp] theorem State.judgeConfirm_hubState (s : State) (d : DevNum) (v : Option Value) :
    (s.judgeConfirm d v).hubState = s.hubState := by
  rw [State.judgeConfirm_eq]
@[simp] theorem State.judgeConfirm_origin (s : State) (d : DevNum) (v : Option Value) :
    (s.judgeConfirm d v).origin = s.origin := by
  rw [State.judgeConfirm_eq]
@[simp] theorem State.judgeConfirm_inputs (s : State) (d : DevNum) (v : Option Value) :
    (s.judgeConfirm d v).inputs = s.inputs := by
  rw [State.judgeConfirm_eq]
@[simp] theorem State.judgeConfirm_cursor (s : State) (d : DevNum) (v : Option Value) :
    (s.judgeConfirm d v).cursor = s.cursor := by
  rw [State.judgeConfirm_eq]
@[simp] theorem State.judgeConfirm_txn (s : State) (d : DevNum) (v : Option Value) :
    (s.judgeConfirm d v).txn = s.txn := by
  rw [State.judgeConfirm_eq]
@[simp] theorem State.judgeConfirm_link (s : State) (d : DevNum) (v : Option Value) :
    (s.judgeConfirm d v).link = s.link := by
  rw [State.judgeConfirm_eq]
@[simp] theorem State.judgeConfirm_rotation (s : State) (d : DevNum) (v : Option Value) :
    (s.judgeConfirm d v).rotation = s.rotation := by
  rw [State.judgeConfirm_eq]
@[simp] theorem State.judgeConfirm_portRotation (s : State) (d : DevNum) (v : Option Value) :
    (s.judgeConfirm d v).portRotation = s.portRotation := by
  rw [State.judgeConfirm_eq]
@[simp] theorem State.judgeConfirm_portH (s : State) (d : DevNum) (v : Option Value) :
    (s.judgeConfirm d v).portH = s.portH := by
  rw [State.judgeConfirm_eq]
@[simp] theorem State.judgeConfirm_portL (s : State) (d : DevNum) (v : Option Value) :
    (s.judgeConfirm d v).portL = s.portL := by
  rw [State.judgeConfirm_eq]
@[simp] theorem State.judgeConfirm_bankA (s : State) (d : DevNum) (v : Option Value) :
    (s.judgeConfirm d v).bankA = s.bankA := by
  rw [State.judgeConfirm_eq]
@[simp] theorem State.judgeConfirm_bankB (s : State) (d : DevNum) (v : Option Value) :
    (s.judgeConfirm d v).bankB = s.bankB := by
  rw [State.judgeConfirm_eq]
@[simp] theorem State.judgeConfirm_save (s : State) (d : DevNum) (v : Option Value) :
    (s.judgeConfirm d v).save = s.save := by
  rw [State.judgeConfirm_eq]
@[simp] theorem State.judgeConfirm_pending (s : State) (d : DevNum) (v : Option Value) :
    (s.judgeConfirm d v).pending = s.pending := by
  rw [State.judgeConfirm_eq]

/-! ### afterJudgement -/

theorem State.afterJudgement_eq (s : State) (d : DevNum) (old new : Entry) :
    (s.afterJudgement d old new) =
      { s with devices := (s.afterJudgement d old new).devices, ports := (s.afterJudgement d old new).ports, profiles := (s.afterJudgement d old new).profiles } := by
  simp only [State.afterJudgement]
  split
  · rw [State.completionTest_eq, State.addUnapplied_eq, State.answerSettled_eq, State.reexamine_eq]
    split <;> simp
  · rw [State.answerSettled_eq, State.reexamine_eq]
    split <;> simp

@[simp] theorem State.afterJudgement_hubState (s : State) (d : DevNum) (old new : Entry) :
    (s.afterJudgement d old new).hubState = s.hubState := by
  rw [State.afterJudgement_eq]
@[simp] theorem State.afterJudgement_origin (s : State) (d : DevNum) (old new : Entry) :
    (s.afterJudgement d old new).origin = s.origin := by
  rw [State.afterJudgement_eq]
@[simp] theorem State.afterJudgement_inputs (s : State) (d : DevNum) (old new : Entry) :
    (s.afterJudgement d old new).inputs = s.inputs := by
  rw [State.afterJudgement_eq]
@[simp] theorem State.afterJudgement_cursor (s : State) (d : DevNum) (old new : Entry) :
    (s.afterJudgement d old new).cursor = s.cursor := by
  rw [State.afterJudgement_eq]
@[simp] theorem State.afterJudgement_claims (s : State) (d : DevNum) (old new : Entry) :
    (s.afterJudgement d old new).claims = s.claims := by
  rw [State.afterJudgement_eq]
@[simp] theorem State.afterJudgement_late (s : State) (d : DevNum) (old new : Entry) :
    (s.afterJudgement d old new).late = s.late := by
  rw [State.afterJudgement_eq]
@[simp] theorem State.afterJudgement_txn (s : State) (d : DevNum) (old new : Entry) :
    (s.afterJudgement d old new).txn = s.txn := by
  rw [State.afterJudgement_eq]
@[simp] theorem State.afterJudgement_link (s : State) (d : DevNum) (old new : Entry) :
    (s.afterJudgement d old new).link = s.link := by
  rw [State.afterJudgement_eq]
@[simp] theorem State.afterJudgement_rotation (s : State) (d : DevNum) (old new : Entry) :
    (s.afterJudgement d old new).rotation = s.rotation := by
  rw [State.afterJudgement_eq]
@[simp] theorem State.afterJudgement_portRotation (s : State) (d : DevNum) (old new : Entry) :
    (s.afterJudgement d old new).portRotation = s.portRotation := by
  rw [State.afterJudgement_eq]
@[simp] theorem State.afterJudgement_portH (s : State) (d : DevNum) (old new : Entry) :
    (s.afterJudgement d old new).portH = s.portH := by
  rw [State.afterJudgement_eq]
@[simp] theorem State.afterJudgement_portL (s : State) (d : DevNum) (old new : Entry) :
    (s.afterJudgement d old new).portL = s.portL := by
  rw [State.afterJudgement_eq]
@[simp] theorem State.afterJudgement_bankA (s : State) (d : DevNum) (old new : Entry) :
    (s.afterJudgement d old new).bankA = s.bankA := by
  rw [State.afterJudgement_eq]
@[simp] theorem State.afterJudgement_bankB (s : State) (d : DevNum) (old new : Entry) :
    (s.afterJudgement d old new).bankB = s.bankB := by
  rw [State.afterJudgement_eq]
@[simp] theorem State.afterJudgement_save (s : State) (d : DevNum) (old new : Entry) :
    (s.afterJudgement d old new).save = s.save := by
  rw [State.afterJudgement_eq]
@[simp] theorem State.afterJudgement_pending (s : State) (d : DevNum) (old new : Entry) :
    (s.afterJudgement d old new).pending = s.pending := by
  rw [State.afterJudgement_eq]

/-! ### judgePush -/

theorem State.judgePush_eq (s : State) (d : DevNum) (r : Register) (j : Device → Entry → Value → Entry) :
    (s.judgePush d r j) =
      { s with devices := (s.judgePush d r j).devices, ports := (s.judgePush d r j).ports, profiles := (s.judgePush d r j).profiles } := by
  unfold State.judgePush
  split
  · split
    · split
      · rw [State.afterJudgement_eq]
      · rfl
    · rfl
  · rfl

@[simp] theorem State.judgePush_hubState (s : State) (d : DevNum) (r : Register) (j : Device → Entry → Value → Entry) :
    (s.judgePush d r j).hubState = s.hubState := by
  rw [State.judgePush_eq]
@[simp] theorem State.judgePush_origin (s : State) (d : DevNum) (r : Register) (j : Device → Entry → Value → Entry) :
    (s.judgePush d r j).origin = s.origin := by
  rw [State.judgePush_eq]
@[simp] theorem State.judgePush_inputs (s : State) (d : DevNum) (r : Register) (j : Device → Entry → Value → Entry) :
    (s.judgePush d r j).inputs = s.inputs := by
  rw [State.judgePush_eq]
@[simp] theorem State.judgePush_cursor (s : State) (d : DevNum) (r : Register) (j : Device → Entry → Value → Entry) :
    (s.judgePush d r j).cursor = s.cursor := by
  rw [State.judgePush_eq]
@[simp] theorem State.judgePush_claims (s : State) (d : DevNum) (r : Register) (j : Device → Entry → Value → Entry) :
    (s.judgePush d r j).claims = s.claims := by
  rw [State.judgePush_eq]
@[simp] theorem State.judgePush_late (s : State) (d : DevNum) (r : Register) (j : Device → Entry → Value → Entry) :
    (s.judgePush d r j).late = s.late := by
  rw [State.judgePush_eq]
@[simp] theorem State.judgePush_txn (s : State) (d : DevNum) (r : Register) (j : Device → Entry → Value → Entry) :
    (s.judgePush d r j).txn = s.txn := by
  rw [State.judgePush_eq]
@[simp] theorem State.judgePush_link (s : State) (d : DevNum) (r : Register) (j : Device → Entry → Value → Entry) :
    (s.judgePush d r j).link = s.link := by
  rw [State.judgePush_eq]
@[simp] theorem State.judgePush_rotation (s : State) (d : DevNum) (r : Register) (j : Device → Entry → Value → Entry) :
    (s.judgePush d r j).rotation = s.rotation := by
  rw [State.judgePush_eq]
@[simp] theorem State.judgePush_portRotation (s : State) (d : DevNum) (r : Register) (j : Device → Entry → Value → Entry) :
    (s.judgePush d r j).portRotation = s.portRotation := by
  rw [State.judgePush_eq]
@[simp] theorem State.judgePush_portH (s : State) (d : DevNum) (r : Register) (j : Device → Entry → Value → Entry) :
    (s.judgePush d r j).portH = s.portH := by
  rw [State.judgePush_eq]
@[simp] theorem State.judgePush_portL (s : State) (d : DevNum) (r : Register) (j : Device → Entry → Value → Entry) :
    (s.judgePush d r j).portL = s.portL := by
  rw [State.judgePush_eq]
@[simp] theorem State.judgePush_bankA (s : State) (d : DevNum) (r : Register) (j : Device → Entry → Value → Entry) :
    (s.judgePush d r j).bankA = s.bankA := by
  rw [State.judgePush_eq]
@[simp] theorem State.judgePush_bankB (s : State) (d : DevNum) (r : Register) (j : Device → Entry → Value → Entry) :
    (s.judgePush d r j).bankB = s.bankB := by
  rw [State.judgePush_eq]
@[simp] theorem State.judgePush_save (s : State) (d : DevNum) (r : Register) (j : Device → Entry → Value → Entry) :
    (s.judgePush d r j).save = s.save := by
  rw [State.judgePush_eq]
@[simp] theorem State.judgePush_pending (s : State) (d : DevNum) (r : Register) (j : Device → Entry → Value → Entry) :
    (s.judgePush d r j).pending = s.pending := by
  rw [State.judgePush_eq]

/-! ### finishTransfer -/

theorem State.finishTransfer_eq (s : State) (p : Port) (c : OutcomeCode) (pl : Payload) :
    (s.finishTransfer p c pl) =
      { s with ports := (s.finishTransfer p c pl).ports } := by
  unfold State.finishTransfer
  split <;> rfl

@[simp] theorem State.finishTransfer_hubState (s : State) (p : Port) (c : OutcomeCode) (pl : Payload) :
    (s.finishTransfer p c pl).hubState = s.hubState := by
  rw [State.finishTransfer_eq]
@[simp] theorem State.finishTransfer_origin (s : State) (p : Port) (c : OutcomeCode) (pl : Payload) :
    (s.finishTransfer p c pl).origin = s.origin := by
  rw [State.finishTransfer_eq]
@[simp] theorem State.finishTransfer_inputs (s : State) (p : Port) (c : OutcomeCode) (pl : Payload) :
    (s.finishTransfer p c pl).inputs = s.inputs := by
  rw [State.finishTransfer_eq]
@[simp] theorem State.finishTransfer_devices (s : State) (p : Port) (c : OutcomeCode) (pl : Payload) :
    (s.finishTransfer p c pl).devices = s.devices := by
  rw [State.finishTransfer_eq]
@[simp] theorem State.finishTransfer_cursor (s : State) (p : Port) (c : OutcomeCode) (pl : Payload) :
    (s.finishTransfer p c pl).cursor = s.cursor := by
  rw [State.finishTransfer_eq]
@[simp] theorem State.finishTransfer_claims (s : State) (p : Port) (c : OutcomeCode) (pl : Payload) :
    (s.finishTransfer p c pl).claims = s.claims := by
  rw [State.finishTransfer_eq]
@[simp] theorem State.finishTransfer_late (s : State) (p : Port) (c : OutcomeCode) (pl : Payload) :
    (s.finishTransfer p c pl).late = s.late := by
  rw [State.finishTransfer_eq]
@[simp] theorem State.finishTransfer_profiles (s : State) (p : Port) (c : OutcomeCode) (pl : Payload) :
    (s.finishTransfer p c pl).profiles = s.profiles := by
  rw [State.finishTransfer_eq]
@[simp] theorem State.finishTransfer_txn (s : State) (p : Port) (c : OutcomeCode) (pl : Payload) :
    (s.finishTransfer p c pl).txn = s.txn := by
  rw [State.finishTransfer_eq]
@[simp] theorem State.finishTransfer_link (s : State) (p : Port) (c : OutcomeCode) (pl : Payload) :
    (s.finishTransfer p c pl).link = s.link := by
  rw [State.finishTransfer_eq]
@[simp] theorem State.finishTransfer_rotation (s : State) (p : Port) (c : OutcomeCode) (pl : Payload) :
    (s.finishTransfer p c pl).rotation = s.rotation := by
  rw [State.finishTransfer_eq]
@[simp] theorem State.finishTransfer_portRotation (s : State) (p : Port) (c : OutcomeCode) (pl : Payload) :
    (s.finishTransfer p c pl).portRotation = s.portRotation := by
  rw [State.finishTransfer_eq]
@[simp] theorem State.finishTransfer_portH (s : State) (p : Port) (c : OutcomeCode) (pl : Payload) :
    (s.finishTransfer p c pl).portH = s.portH := by
  rw [State.finishTransfer_eq]
@[simp] theorem State.finishTransfer_portL (s : State) (p : Port) (c : OutcomeCode) (pl : Payload) :
    (s.finishTransfer p c pl).portL = s.portL := by
  rw [State.finishTransfer_eq]
@[simp] theorem State.finishTransfer_bankA (s : State) (p : Port) (c : OutcomeCode) (pl : Payload) :
    (s.finishTransfer p c pl).bankA = s.bankA := by
  rw [State.finishTransfer_eq]
@[simp] theorem State.finishTransfer_bankB (s : State) (p : Port) (c : OutcomeCode) (pl : Payload) :
    (s.finishTransfer p c pl).bankB = s.bankB := by
  rw [State.finishTransfer_eq]
@[simp] theorem State.finishTransfer_save (s : State) (p : Port) (c : OutcomeCode) (pl : Payload) :
    (s.finishTransfer p c pl).save = s.save := by
  rw [State.finishTransfer_eq]
@[simp] theorem State.finishTransfer_pending (s : State) (p : Port) (c : OutcomeCode) (pl : Payload) :
    (s.finishTransfer p c pl).pending = s.pending := by
  rw [State.finishTransfer_eq]

/-! ### cutTxn -/

theorem State.cutTxn_eq (s : State) :
    s.cutTxn =
      { s with devices := s.cutTxn.devices, cursor := s.cutTxn.cursor, txn := s.cutTxn.txn, link := s.cutTxn.link } := by
  unfold State.cutTxn
  split
  · simp only []
    split
    · rfl
    · split
      · rw [State.modDevice_eq]
        rfl
      · rw [State.modDevice_eq]
        rfl
      all_goals rfl
  · rfl

@[simp] theorem State.cutTxn_hubState (s : State) : s.cutTxn.hubState = s.hubState := by
  rw [State.cutTxn_eq]
@[simp] theorem State.cutTxn_origin (s : State) : s.cutTxn.origin = s.origin := by
  rw [State.cutTxn_eq]
@[simp] theorem State.cutTxn_inputs (s : State) : s.cutTxn.inputs = s.inputs := by
  rw [State.cutTxn_eq]
@[simp] theorem State.cutTxn_claims (s : State) : s.cutTxn.claims = s.claims := by
  rw [State.cutTxn_eq]
@[simp] theorem State.cutTxn_late (s : State) : s.cutTxn.late = s.late := by
  rw [State.cutTxn_eq]
@[simp] theorem State.cutTxn_profiles (s : State) : s.cutTxn.profiles = s.profiles := by
  rw [State.cutTxn_eq]
@[simp] theorem State.cutTxn_rotation (s : State) : s.cutTxn.rotation = s.rotation := by
  rw [State.cutTxn_eq]
@[simp] theorem State.cutTxn_ports (s : State) : s.cutTxn.ports = s.ports := by
  rw [State.cutTxn_eq]
@[simp] theorem State.cutTxn_portRotation (s : State) : s.cutTxn.portRotation = s.portRotation := by
  rw [State.cutTxn_eq]
@[simp] theorem State.cutTxn_portH (s : State) : s.cutTxn.portH = s.portH := by
  rw [State.cutTxn_eq]
@[simp] theorem State.cutTxn_portL (s : State) : s.cutTxn.portL = s.portL := by
  rw [State.cutTxn_eq]
@[simp] theorem State.cutTxn_bankA (s : State) : s.cutTxn.bankA = s.bankA := by
  rw [State.cutTxn_eq]
@[simp] theorem State.cutTxn_bankB (s : State) : s.cutTxn.bankB = s.bankB := by
  rw [State.cutTxn_eq]
@[simp] theorem State.cutTxn_save (s : State) : s.cutTxn.save = s.save := by
  rw [State.cutTxn_eq]
@[simp] theorem State.cutTxn_pending (s : State) : s.cutTxn.pending = s.pending := by
  rw [State.cutTxn_eq]

/-! ### deliverH -/

theorem State.deliverH_eq (s : State) (f : Frame) :
    (s.deliverH f) =
      { s with ports := (s.deliverH f).ports, portH := (s.deliverH f).portH } := by
  unfold State.deliverH
  split <;> rfl

@[simp] theorem State.deliverH_hubState (s : State) (f : Frame) : (s.deliverH f).hubState = s.hubState := by
  rw [State.deliverH_eq]
@[simp] theorem State.deliverH_origin (s : State) (f : Frame) : (s.deliverH f).origin = s.origin := by
  rw [State.deliverH_eq]
@[simp] theorem State.deliverH_inputs (s : State) (f : Frame) : (s.deliverH f).inputs = s.inputs := by
  rw [State.deliverH_eq]
@[simp] theorem State.deliverH_devices (s : State) (f : Frame) : (s.deliverH f).devices = s.devices := by
  rw [State.deliverH_eq]
@[simp] theorem State.deliverH_cursor (s : State) (f : Frame) : (s.deliverH f).cursor = s.cursor := by
  rw [State.deliverH_eq]
@[simp] theorem State.deliverH_claims (s : State) (f : Frame) : (s.deliverH f).claims = s.claims := by
  rw [State.deliverH_eq]
@[simp] theorem State.deliverH_late (s : State) (f : Frame) : (s.deliverH f).late = s.late := by
  rw [State.deliverH_eq]
@[simp] theorem State.deliverH_profiles (s : State) (f : Frame) : (s.deliverH f).profiles = s.profiles := by
  rw [State.deliverH_eq]
@[simp] theorem State.deliverH_txn (s : State) (f : Frame) : (s.deliverH f).txn = s.txn := by
  rw [State.deliverH_eq]
@[simp] theorem State.deliverH_link (s : State) (f : Frame) : (s.deliverH f).link = s.link := by
  rw [State.deliverH_eq]
@[simp] theorem State.deliverH_rotation (s : State) (f : Frame) : (s.deliverH f).rotation = s.rotation := by
  rw [State.deliverH_eq]
@[simp] theorem State.deliverH_portRotation (s : State) (f : Frame) :
    (s.deliverH f).portRotation = s.portRotation := by
  rw [State.deliverH_eq]
@[simp] theorem State.deliverH_portL (s : State) (f : Frame) : (s.deliverH f).portL = s.portL := by
  rw [State.deliverH_eq]
@[simp] theorem State.deliverH_bankA (s : State) (f : Frame) : (s.deliverH f).bankA = s.bankA := by
  rw [State.deliverH_eq]
@[simp] theorem State.deliverH_bankB (s : State) (f : Frame) : (s.deliverH f).bankB = s.bankB := by
  rw [State.deliverH_eq]
@[simp] theorem State.deliverH_save (s : State) (f : Frame) : (s.deliverH f).save = s.save := by
  rw [State.deliverH_eq]
@[simp] theorem State.deliverH_pending (s : State) (f : Frame) : (s.deliverH f).pending = s.pending := by
  rw [State.deliverH_eq]

/-! ### deliverL -/

theorem State.deliverL_eq (s : State) (f : Frame) :
    (s.deliverL f) =
      { s with ports := (s.deliverL f).ports, portL := (s.deliverL f).portL } := by
  unfold State.deliverL
  split <;> rfl

@[simp] theorem State.deliverL_hubState (s : State) (f : Frame) : (s.deliverL f).hubState = s.hubState := by
  rw [State.deliverL_eq]
@[simp] theorem State.deliverL_origin (s : State) (f : Frame) : (s.deliverL f).origin = s.origin := by
  rw [State.deliverL_eq]
@[simp] theorem State.deliverL_inputs (s : State) (f : Frame) : (s.deliverL f).inputs = s.inputs := by
  rw [State.deliverL_eq]
@[simp] theorem State.deliverL_devices (s : State) (f : Frame) : (s.deliverL f).devices = s.devices := by
  rw [State.deliverL_eq]
@[simp] theorem State.deliverL_cursor (s : State) (f : Frame) : (s.deliverL f).cursor = s.cursor := by
  rw [State.deliverL_eq]
@[simp] theorem State.deliverL_claims (s : State) (f : Frame) : (s.deliverL f).claims = s.claims := by
  rw [State.deliverL_eq]
@[simp] theorem State.deliverL_late (s : State) (f : Frame) : (s.deliverL f).late = s.late := by
  rw [State.deliverL_eq]
@[simp] theorem State.deliverL_profiles (s : State) (f : Frame) : (s.deliverL f).profiles = s.profiles := by
  rw [State.deliverL_eq]
@[simp] theorem State.deliverL_txn (s : State) (f : Frame) : (s.deliverL f).txn = s.txn := by
  rw [State.deliverL_eq]
@[simp] theorem State.deliverL_link (s : State) (f : Frame) : (s.deliverL f).link = s.link := by
  rw [State.deliverL_eq]
@[simp] theorem State.deliverL_rotation (s : State) (f : Frame) : (s.deliverL f).rotation = s.rotation := by
  rw [State.deliverL_eq]
@[simp] theorem State.deliverL_portRotation (s : State) (f : Frame) :
    (s.deliverL f).portRotation = s.portRotation := by
  rw [State.deliverL_eq]
@[simp] theorem State.deliverL_portH (s : State) (f : Frame) : (s.deliverL f).portH = s.portH := by
  rw [State.deliverL_eq]
@[simp] theorem State.deliverL_bankA (s : State) (f : Frame) : (s.deliverL f).bankA = s.bankA := by
  rw [State.deliverL_eq]
@[simp] theorem State.deliverL_bankB (s : State) (f : Frame) : (s.deliverL f).bankB = s.bankB := by
  rw [State.deliverL_eq]
@[simp] theorem State.deliverL_save (s : State) (f : Frame) : (s.deliverL f).save = s.save := by
  rw [State.deliverL_eq]
@[simp] theorem State.deliverL_pending (s : State) (f : Frame) : (s.deliverL f).pending = s.pending := by
  rw [State.deliverL_eq]

/-! ### deliverWaiting -/

theorem State.deliverWaiting_eq (s : State) (p : Port) :
    (s.deliverWaiting p) =
      { s with ports := (s.deliverWaiting p).ports, portH := (s.deliverWaiting p).portH, portL := (s.deliverWaiting p).portL } := by
  cases p <;> simp only [State.deliverWaiting] <;> split <;> rfl

@[simp] theorem State.deliverWaiting_hubState (s : State) (p : Port) :
    (s.deliverWaiting p).hubState = s.hubState := by
  rw [State.deliverWaiting_eq]
@[simp] theorem State.deliverWaiting_origin (s : State) (p : Port) : (s.deliverWaiting p).origin = s.origin := by
  rw [State.deliverWaiting_eq]
@[simp] theorem State.deliverWaiting_inputs (s : State) (p : Port) : (s.deliverWaiting p).inputs = s.inputs := by
  rw [State.deliverWaiting_eq]
@[simp] theorem State.deliverWaiting_devices (s : State) (p : Port) : (s.deliverWaiting p).devices = s.devices := by
  rw [State.deliverWaiting_eq]
@[simp] theorem State.deliverWaiting_cursor (s : State) (p : Port) : (s.deliverWaiting p).cursor = s.cursor := by
  rw [State.deliverWaiting_eq]
@[simp] theorem State.deliverWaiting_claims (s : State) (p : Port) : (s.deliverWaiting p).claims = s.claims := by
  rw [State.deliverWaiting_eq]
@[simp] theorem State.deliverWaiting_late (s : State) (p : Port) : (s.deliverWaiting p).late = s.late := by
  rw [State.deliverWaiting_eq]
@[simp] theorem State.deliverWaiting_profiles (s : State) (p : Port) :
    (s.deliverWaiting p).profiles = s.profiles := by
  rw [State.deliverWaiting_eq]
@[simp] theorem State.deliverWaiting_txn (s : State) (p : Port) : (s.deliverWaiting p).txn = s.txn := by
  rw [State.deliverWaiting_eq]
@[simp] theorem State.deliverWaiting_link (s : State) (p : Port) : (s.deliverWaiting p).link = s.link := by
  rw [State.deliverWaiting_eq]
@[simp] theorem State.deliverWaiting_rotation (s : State) (p : Port) :
    (s.deliverWaiting p).rotation = s.rotation := by
  rw [State.deliverWaiting_eq]
@[simp] theorem State.deliverWaiting_portRotation (s : State) (p : Port) :
    (s.deliverWaiting p).portRotation = s.portRotation := by
  rw [State.deliverWaiting_eq]
@[simp] theorem State.deliverWaiting_bankA (s : State) (p : Port) : (s.deliverWaiting p).bankA = s.bankA := by
  rw [State.deliverWaiting_eq]
@[simp] theorem State.deliverWaiting_bankB (s : State) (p : Port) : (s.deliverWaiting p).bankB = s.bankB := by
  rw [State.deliverWaiting_eq]
@[simp] theorem State.deliverWaiting_save (s : State) (p : Port) : (s.deliverWaiting p).save = s.save := by
  rw [State.deliverWaiting_eq]
@[simp] theorem State.deliverWaiting_pending (s : State) (p : Port) : (s.deliverWaiting p).pending = s.pending := by
  rw [State.deliverWaiting_eq]

/-! ### dequeue -/

theorem State.dequeue_eq (s : State) (p : Port) :
    (s.dequeue p) =
      { s with ports := (s.dequeue p).ports, portRotation := (s.dequeue p).portRotation, portH := (s.dequeue p).portH, portL := (s.dequeue p).portL } := by
  unfold State.dequeue
  rw [State.deliverWaiting_eq]
  rfl

@[simp] theorem State.dequeue_hubState (s : State) (p : Port) : (s.dequeue p).hubState = s.hubState := by
  rw [State.dequeue_eq]
@[simp] theorem State.dequeue_origin (s : State) (p : Port) : (s.dequeue p).origin = s.origin := by
  rw [State.dequeue_eq]
@[simp] theorem State.dequeue_inputs (s : State) (p : Port) : (s.dequeue p).inputs = s.inputs := by
  rw [State.dequeue_eq]
@[simp] theorem State.dequeue_devices (s : State) (p : Port) : (s.dequeue p).devices = s.devices := by
  rw [State.dequeue_eq]
@[simp] theorem State.dequeue_cursor (s : State) (p : Port) : (s.dequeue p).cursor = s.cursor := by
  rw [State.dequeue_eq]
@[simp] theorem State.dequeue_claims (s : State) (p : Port) : (s.dequeue p).claims = s.claims := by
  rw [State.dequeue_eq]
@[simp] theorem State.dequeue_late (s : State) (p : Port) : (s.dequeue p).late = s.late := by
  rw [State.dequeue_eq]
@[simp] theorem State.dequeue_profiles (s : State) (p : Port) : (s.dequeue p).profiles = s.profiles := by
  rw [State.dequeue_eq]
@[simp] theorem State.dequeue_txn (s : State) (p : Port) : (s.dequeue p).txn = s.txn := by
  rw [State.dequeue_eq]
@[simp] theorem State.dequeue_link (s : State) (p : Port) : (s.dequeue p).link = s.link := by
  rw [State.dequeue_eq]
@[simp] theorem State.dequeue_rotation (s : State) (p : Port) : (s.dequeue p).rotation = s.rotation := by
  rw [State.dequeue_eq]
@[simp] theorem State.dequeue_bankA (s : State) (p : Port) : (s.dequeue p).bankA = s.bankA := by
  rw [State.dequeue_eq]
@[simp] theorem State.dequeue_bankB (s : State) (p : Port) : (s.dequeue p).bankB = s.bankB := by
  rw [State.dequeue_eq]
@[simp] theorem State.dequeue_save (s : State) (p : Port) : (s.dequeue p).save = s.save := by
  rw [State.dequeue_eq]
@[simp] theorem State.dequeue_pending (s : State) (p : Port) : (s.dequeue p).pending = s.pending := by
  rw [State.dequeue_eq]

end Sys2Proof.Machine
end

