-- ==== Sys2Proof/Laws/Ops.lean ====
section
/-! SUPPORT. What the shared operations do: lookups, the take, answers and what they leave of a port, the completion test.
A proof about a command cites these and unfolds the command's own definition alone. -/

namespace Sys2Proof.Machine

/-! ### Fields of two bytes and flag bytes -/

@[simp] theorem ofBytes_hiByte_loByte (v : Value) : ofBytes (hiByte v) (loByte v) = v := by
  apply BitVec.eq_of_toNat_eq
  simp only [ofBytes, hiByte, loByte, BitVec.toNat_append, BitVec.extractLsb'_toNat]
  rw [← Nat.shiftLeft_add_eq_or_of_lt (by omega)]
  have := v.isLt
  simp only [Nat.shiftRight_eq_div_pow, Nat.shiftLeft_eq]
  omega

@[simp] theorem flag1_flagByte1 (a : Bool) : flag1 (flagByte1 a) = some a := by cases a <;> rfl

@[simp] theorem flag2_flagByte2 (a b : Bool) : flag2 (flagByte2 a b) = some (a, b) := by cases a <;> cases b <;> decide

@[simp] theorem maskOfBytes_setWidth (m : BitVec 10) :
    maskOfBytes (hiByte (m.setWidth 16)) (loByte (m.setWidth 16)) = some m := by
  unfold maskOfBytes
  rw [ofBytes_hiByte_loByte]
  have : (m.setWidth 16).toNat < 1024 := by
    simp only [BitVec.toNat_setWidth]
    omega
  rw [if_pos this]
  simp

/-! ### Lookups -/

theorem devNum?_of_eq {b : Byte} {d : DevNum} (h : b.toNat = d.val) : devNum? b.toNat = some d := by
  unfold devNum?
  rw [h]
  simp

theorem State.findDevice_of_names {s : State} {b : Byte} {d : DevNum} {dv : Device} (h : s.Names b d dv) :
    s.findDevice b = some (d, dv) := by
  simp [State.findDevice, devNum?_of_eq h.1, h.2]

theorem State.findDevice_eq_none {s : State} {b : Byte} (h : ∀ d dv, ¬ s.Names b d dv) : s.findDevice b = none := by
  unfold State.findDevice devNum?
  split
  · rename_i d hd
    split at hd
    · cases hd
      cases hx : s.device ⟨b.toNat, by assumption⟩ with
      | none => simp
      | some dv => exact absurd ⟨rfl, hx⟩ (h _ _)
    · cases hd
  · rfl

theorem findEntry_isSome (r : Register) (es : List Entry) :
    (findEntry r es).isSome = true ↔ ∃ e ∈ es, e.register = r := by
  simp [findEntry]

theorem findEntry_eq_none {r : Register} {es : List Entry} (h : ∀ e ∈ es, e.register ≠ r) : findEntry r es = none := by
  simpa [findEntry] using h

theorem findEntry_mem {r : Register} {es : List Entry} {e : Entry} (h : findEntry r es = some e) :
    e.register = r ∧ e ∈ es := by
  unfold findEntry at h
  exact ⟨by simpa using List.find?_some h, List.mem_of_find?_eq_some h⟩

theorem mem_insertEntry (e x : Entry) (es : List Entry) : x ∈ insertEntry e es ↔ x ∈ es ∨ x = e := by
  induction es with
  | nil => simp [insertEntry]
  | cons y ys ih =>
    unfold insertEntry
    split
    · simp only [List.mem_cons]
      tauto
    · simp only [List.mem_cons, ih]
      tauto

@[simp] theorem length_insertEntry (e : Entry) (es : List Entry) : (insertEntry e es).length = es.length + 1 := by
  induction es with
  | nil => rfl
  | cons y ys ih =>
    unfold insertEntry
    split <;> simp [ih]

/-! ### Devices -/

@[simp] theorem State.device_setDevice_self (s : State) (d : DevNum) (dv : Device) :
    (s.setDevice d dv).device d = some dv := by
  simp [State.device]

theorem State.device_setDevice (s : State) (d e : DevNum) (dv : Device) :
    (s.setDevice d dv).device e = if e = d then some dv else s.device e := by
  simp [State.device, PerDevice.get_set]

@[simp] theorem State.setDevice_setDevice (s : State) (d : DevNum) (a b : Device) :
    (s.setDevice d a).setDevice d b = s.setDevice d b := by
  apply State.ext_fields <;> simp
  apply PerDevice.ext_get
  intro e
  simp only [PerDevice.get_set]
  split <;> rfl

theorem State.device_modDevice (s : State) (d e : DevNum) (f : Device → Device) :
    (s.modDevice d f).device e = if e = d then (s.device d).map f else s.device e := by
  unfold State.modDevice
  split
  · rename_i dv h
    rw [State.device_setDevice, h]
    rfl
  · rename_i h
    split
    · rename_i he
      rw [he, h]
      rfl
    · rfl

theorem State.modDevice_of_some {s : State} {d : DevNum} {dv : Device} (h : s.device d = some dv) (f : Device → Device) :
    s.modDevice d f = s.setDevice d (f dv) := by
  simp [State.modDevice, h]

/-- Re-examining a device whose record was just set. -/
theorem State.reexamine_setDevice (s : State) (d : DevNum) (dv : Device) :
    (s.setDevice d dv).reexamine d = s.setDevice d (dv.reexamine (s.markerGranted d)) := by
  unfold State.reexamine
  rw [State.modDevice_of_some (State.device_setDevice_self s d dv), State.setDevice_setDevice]
  rfl

/-! ### Answers: what an operation that answers outstanding requests leaves of a port (R130, R131) -/

/-- The port b after answers to outstanding requests of the port a: answers joined the tail of the response queue, each as
its request left the outstanding set, and the request queue, the manual queue, the mask and the enables stayed. -/
structure PortSide.Answered (a b : PortSide) : Prop where
  responses : a.responses <+: b.responses
  outstanding : b.outstanding.Sublist a.outstanding
  sum : b.responses.length + b.outstanding.length = a.responses.length + a.outstanding.length
  requests : b.requests = a.requests
  manual : b.manual = a.manual
  mask : b.mask = a.mask
  responseEnable : b.responseEnable = a.responseEnable
  noticeEnable : b.noticeEnable = a.noticeEnable

theorem PortSide.Answered.refl (a : PortSide) : PortSide.Answered a a :=
  ⟨List.prefix_refl _, List.Sublist.refl _, rfl, rfl, rfl, rfl, rfl, rfl⟩

theorem PortSide.Answered.trans {a b c : PortSide} (h : PortSide.Answered a b) (k : PortSide.Answered b c) :
    PortSide.Answered a c :=
  ⟨h.responses.trans k.responses, k.outstanding.trans h.outstanding, k.sum.trans h.sum, k.requests.trans h.requests,
    k.manual.trans h.manual, k.mask.trans h.mask, k.responseEnable.trans h.responseEnable,
    k.noticeEnable.trans h.noticeEnable⟩

theorem PortSide.answered_answer (f : Outstanding → Option (OutcomeCode × Payload)) (a : PortSide) :
    PortSide.Answered a (a.answer f) := by
  refine ⟨List.prefix_append _ _, List.filter_sublist, ?_, rfl, rfl, rfl, rfl, rfl⟩
  simp only [PortSide.answer, List.length_append]
  have : (a.outstanding.filterMap fun o => (f o).map fun x => (⟨o.tag, x.1, x.2⟩ : Response)).length +
      (a.outstanding.filter fun o => (f o).isNone).length = a.outstanding.length := by
    induction a.outstanding with
    | nil => rfl
    | cons o os ih => cases h : f o <;> simp [h] <;> omega
  omega

theorem PortSide.answered_post (n : Notice) (a : PortSide) : PortSide.Answered a (a.post n) := by
  unfold PortSide.post
  split
  · split
    · exact ⟨List.prefix_refl _, List.Sublist.refl _, rfl, rfl, rfl, rfl, rfl, rfl⟩
    · split <;> exact ⟨List.prefix_refl _, List.Sublist.refl _, rfl, rfl, rfl, rfl, rfl, rfl⟩
  · exact PortSide.Answered.refl a

/-- Both ports are as answers to outstanding requests leave them. -/
def State.Answered (s t : State) : Prop := ∀ q, PortSide.Answered (s.port q) (t.port q)

theorem State.Answered.refl (s : State) : s.Answered s := fun _ => PortSide.Answered.refl _

theorem State.Answered.trans {s t u : State} (h : s.Answered t) (k : t.Answered u) : s.Answered u :=
  fun q => (h q).trans (k q)

/-- An operation that leaves the ports as they are answers nothing. -/
theorem State.Answered.of_ports {s t : State} (h : t.ports = s.ports) : s.Answered t := by
  intro q
  rw [State.port, State.port, h]
  exact PortSide.Answered.refl _

theorem State.answered_modPort {s : State} {p : Port} {f : PortSide → PortSide}
    (h : PortSide.Answered (s.port p) (f (s.port p))) : s.Answered (s.modPort p f) := by
  intro q
  simp only [State.port, State.modPort_ports, PerPort.get_set]
  split
  · rename_i hq
    subst hq
    exact h
  · exact PortSide.Answered.refl _

theorem State.answered_answer (s : State) (f : Outstanding → Option (OutcomeCode × Payload)) : s.Answered (s.answer f) :=
  (State.answered_modPort (PortSide.answered_answer f _)).trans (State.answered_modPort (PortSide.answered_answer f _))

theorem State.answered_postTo (s : State) (p : Port) (n : Notice) : s.Answered (s.postTo p n) :=
  State.answered_modPort (PortSide.answered_post n _)

theorem State.answered_post (s : State) (n : Notice) : s.Answered (s.post n) :=
  (State.answered_postTo s .h n).trans (State.answered_postTo _ .l n)

theorem State.answered_answerSettled (b s : State) (d : DevNum) : s.Answered (State.answerSettled b d s) := by
  unfold State.answerSettled
  split
  · split
    · exact State.answered_answer _ _
    · exact State.Answered.refl s
  · exact State.Answered.refl s

theorem State.answered_completionTest (s : State) : s.Answered s.completionTest := by
  unfold State.completionTest
  split
  · split
    · exact State.Answered.refl s
    · exact ((State.answered_post s _).trans (State.answered_answer _ _)).trans (State.Answered.of_ports rfl)
  · exact State.Answered.refl s

theorem State.answered_clearMarks (s : State) (d : DevNum) : s.Answered (s.clearMarks d) := by
  unfold State.clearMarks
  split
  · split
    · exact State.Answered.refl s
    · refine State.Answered.trans (State.Answered.of_ports ?_) (State.answered_completionTest _)
      simp
  · exact State.Answered.refl s

theorem State.answered_switchTo (s : State) (P : Profile) : s.Answered (s.switchTo P) := by
  unfold State.switchTo
  simp only []
  by_cases h : s.profiles.transition.isSome = true
  · rw [if_pos h]
    refine (State.answered_answer s supersededAnswer).trans (State.Answered.of_ports ?_)
    simp
  · rw [if_neg h]
    refine State.Answered.of_ports ?_
    simp

theorem State.answered_lineSwitch (s : State) (P : Profile) : s.Answered (s.lineSwitch P) := by
  unfold State.lineSwitch
  split
  · exact State.Answered.refl s
  · exact (State.answered_switchTo s P).trans (State.answered_completionTest _)

theorem State.answered_lineChange (s : State) : s.Answered s.lineChange := by
  unfold State.lineChange
  split
  · rename_i level h
    simp only []
    split
    · refine State.Answered.trans (State.Answered.of_ports ?_) (State.answered_lineSwitch _ _)
      rfl
    · exact State.Answered.of_ports rfl
  · exact State.Answered.refl s

theorem State.answered_endClaim (s : State) (d : DevNum) (f : Entry → Entry) : s.Answered (s.endClaim d f) := by
  unfold State.endClaim
  split
  · simp only []
    split
    · refine State.Answered.trans (State.Answered.of_ports ?_) (State.answered_completionTest _)
      simp
    · exact State.Answered.of_ports (by simp)
  · exact State.Answered.of_ports rfl

theorem State.answered_expireClaim (s : State) (d : DevNum) : s.Answered (s.expireClaim d) := by
  unfold State.expireClaim
  split
  · refine (State.Answered.trans ?_ (State.answered_postTo _ _ _)).trans (State.answered_endClaim _ _ _)
    exact State.Answered.of_ports rfl
  · exact State.Answered.refl s

theorem State.answered_breakClaim (s : State) (d : DevNum) : s.Answered (s.breakClaim d) := by
  unfold State.breakClaim
  split
  · refine (State.Answered.trans ?_ (State.answered_postTo _ _ _)).trans (State.answered_endClaim _ _ _)
    exact State.Answered.of_ports rfl
  · exact State.Answered.refl s

theorem State.answered_fence (s : State) (d : DevNum) : s.Answered (s.fence d) := by
  unfold State.fence
  refine State.Answered.trans ?_ (State.answered_clearMarks _ d)
  refine State.Answered.trans ?_ (State.answered_answer _ _)
  refine State.Answered.trans ?_ (State.answered_answer _ _)
  refine State.Answered.trans (State.Answered.of_ports ?_) (State.answered_post _ _)
  simp

theorem State.answered_declareLoss (s : State) (d : DevNum) : s.Answered (s.declareLoss d) := by
  have h : s.Answered (State.breakClaim d ((s.modDevice d fun dv => { dv with losses := dv.losses + 1 }).post (.deviceLost d))) :=
    (State.Answered.trans (State.Answered.of_ports (by simp)) (State.answered_post _ _)).trans
      (State.answered_breakClaim _ d)
  unfold State.declareLoss
  simp only []
  split
  · split
    · exact h.trans (State.answered_fence _ d)
    · exact h.trans (State.Answered.of_ports (by simp))
  · exact h

theorem State.answered_afterJudgement (s : State) (d : DevNum) (old new : Entry) : s.Answered (s.afterJudgement d old new) := by
  have h : ∀ t : State, s.Answered t → s.Answered (State.answerSettled s d
      ((if new.isFailed then t.post (.entryFailed d new.register) else t).reexamine d)) := by
    intro t ht
    refine State.Answered.trans ?_ (State.answered_answerSettled _ _ _)
    refine State.Answered.trans ?_ (State.Answered.of_ports (State.reexamine_ports _ d))
    split
    · exact ht.trans (State.answered_post _ _)
    · exact ht
  have k := h _ (State.Answered.trans (State.Answered.of_ports
    (State.modDevice_ports s d (Device.updateEntry old.register fun _ => new))) (State.answered_answer _ (entryWaitAnswer d new)))
  unfold State.afterJudgement
  simp only []
  split
  · refine k.trans (State.Answered.trans (State.Answered.of_ports ?_) (State.answered_completionTest _))
    simp
  · exact k

theorem State.answered_judgePush (s : State) (d : DevNum) (r : Register) (j : Device → Entry → Value → Entry) :
    s.Answered (s.judgePush d r j) := by
  unfold State.judgePush
  split
  · split
    · split
      · exact State.answered_afterJudgement s d _ _
      · exact State.Answered.refl s
    · exact State.Answered.refl s
  · exact State.Answered.refl s

/-! ### The take -/

/-- A take changes the two ports' request queues alone. -/
theorem State.port_dequeue (s : State) (p q : Port) :
    (s.dequeue p).port q = { s.port q with requests := ((s.dequeue p).port q).requests } := by
  cases p <;> simp only [State.dequeue, State.deliverWaiting] <;> split <;> cases q <;> rfl

section
variable (s : State) (p q : Port) (d : DevNum)

@[simp] theorem State.dequeue_outstanding : ((s.dequeue p).port q).outstanding = (s.port q).outstanding := by
  rw [State.port_dequeue]

@[simp] theorem State.dequeue_responses : ((s.dequeue p).port q).responses = (s.port q).responses := by
  rw [State.port_dequeue]

@[simp] theorem State.dequeue_manual : ((s.dequeue p).port q).manual = (s.port q).manual := by
  rw [State.port_dequeue]

@[simp] theorem State.dequeue_notices : ((s.dequeue p).port q).notices = (s.port q).notices := by
  rw [State.port_dequeue]

@[simp] theorem State.dequeue_lost : ((s.dequeue p).port q).lost = (s.port q).lost := by
  rw [State.port_dequeue]

@[simp] theorem State.dequeue_mask : ((s.dequeue p).port q).mask = (s.port q).mask := by
  rw [State.port_dequeue]

@[simp] theorem State.device_dequeue : (s.dequeue p).device d = s.device d := by simp [State.device]

@[simp] theorem State.claim_dequeue : (s.dequeue p).claim d = s.claim d := by simp [State.claim]

@[simp] theorem State.claimed_dequeue : (s.dequeue p).claimed d = s.claimed d := by simp [State.claimed]

@[simp] theorem State.poolInUse_dequeue : (s.dequeue p).poolInUse = s.poolInUse := by simp [State.poolInUse]

@[simp] theorem State.findDevice_dequeue (b : Byte) : (s.dequeue p).findDevice b = s.findDevice b := by
  simp [State.findDevice]

@[simp] theorem State.markerGranted_dequeue : (s.dequeue p).markerGranted d = s.markerGranted d := by
  simp [State.markerGranted]

@[simp] theorem State.capFull_dequeue : (s.dequeue p).capFull q = s.capFull q := by simp [State.capFull]

@[simp] theorem State.lateMark_dequeue : (s.dequeue p).lateMark d q = s.lateMark d q := by simp [State.lateMark]

@[simp] theorem State.holds_dequeue : (s.dequeue p).holds q d = s.holds q d := by simp [State.holds]

@[simp] theorem State.deferred_dequeue : (s.dequeue p).deferred d = s.deferred d := by simp [State.deferred]

end

/-- A take of a frame that carries a request, with a tag not outstanding, on a port its kind is accepted from, runs the
request's own rule on the state after the take (R128). -/
theorem State.takeRequest_of_request {s : State} {p : Port} {k : ReqKind} {f : Frame} {r : Request}
    {act : Byte → Request → State → State} (hp : s.nextTake = some p) (hf : (s.port p).requests.head? = some f)
    (hn : f.names k = true) (hr : f.request = some r) (ho : ∀ o ∈ (s.port p).outstanding, o.tag ≠ f.tag)
    (hk : k.hOnly = true → p = .h) : s.takeRequest p k act = act f.tag r (s.dequeue p) := by
  unfold State.takeRequest
  rw [if_pos hp]
  cases hq : (s.port p).requests with
  | nil => simp [hq] at hf
  | cons g gs =>
    simp only [hq, List.head?_cons, Option.some.injEq] at hf
    subst hf
    have ht : (s.dequeue p).tagOutstanding p g.tag = false := by
      simp only [State.tagOutstanding, State.dequeue_outstanding, List.any_eq_false]
      intro o h
      simpa using ho o h
    have hl : (k.hOnly && decide (p = .l)) = false := by
      by_cases h : k.hOnly = true
      · simp [hk h]
      · simp [h]
    simp only [hn, if_true, State.judgeFrame, hr, ht, hl]
    rfl

theorem State.respond_eq (s : State) (p : Port) (tag : Byte) (o : OutcomeCode) (pl : Payload) :
    s.respond p tag o pl = { s with ports := s.answered p tag o pl } := rfl

theorem State.await_eq (s : State) (p : Port) (o : Outstanding) : s.await p o = { s with ports := s.deferredTo p o } := rfl

/-! ### The completion test (R121) -/

/-- While an entry carries a mark or a device is deferred, the completion test does nothing. -/
theorem State.completionTest_of_marked {s : State} (h : s.anyMark = true) : s.completionTest = s := by
  unfold State.completionTest
  split
  · simp [h]
  · rfl

theorem State.completionTest_of_none {s : State} (h : s.profiles.transition = none) : s.completionTest = s := by
  simp [State.completionTest, h]

/-- With neither a mark nor a deferred device left, the completion test settles the transition (R121, R122). -/
theorem State.completionTest_of_settled {s : State} {t : Transition} (h : s.profiles.transition = some t)
    (hm : s.anyMark = false) (hd : t.anyDeferred = false) :
    s.completionTest =
      { (s.post (.profileSettled t.target t.unapplied)).answer (completionAnswer t.unapplied) with
        profiles := { s.profiles with transition := none } } := by
  simp [State.completionTest, h, hm, hd]

/-- Of the profile controller the completion test changes at most the transition, and that only by removing it. -/
theorem State.completionTest_transition (s : State) :
    s.completionTest.profiles = s.profiles ∨ s.completionTest.profiles = { s.profiles with transition := none } := by
  unfold State.completionTest
  split
  · split
    · exact .inl rfl
    · exact .inr (by simp)
  · exact .inl rfl

/-! ### The link's lines and Port H across a hold -/

theorem State.linkLines_of_idle {s : State} (h : s.link = none) (k : Nat) : s.linkLines k = LinkLines.idle := by
  simp [State.linkLines, h]

theorem State.linkLines_of_frame {s : State} {f : LinkFrame} (h : s.link = some f) (k : Nat) :
    s.linkLines k = { select := some f.device, dclkPeriod := some f.periodNs, ddat := f.drives k } := by
  simp [State.linkLines, State.selected, h]

theorem LinkFrame.drives_of_write {f : LinkFrame} {k : Nat} (h : f.op = .write) (hk : k < 27) :
    f.drives k = some (f.writeBits.getLsbD (26 - k)) := by
  simp [LinkFrame.drives, h, hk]

theorem LinkFrame.drives_of_read {f : LinkFrame} {k : Nat} (h : f.op = .read) (hk : 10 ≤ k) : f.drives k = none := by
  simp [LinkFrame.drives, h, Nat.not_lt.mpr hk]

/-- The buffer of Port H stays as it is through a hold that does not begin in phase WRITE (R160). -/
theorem PortH.holdEntry_buffer {q : PortH} (h : q.phase ≠ .write) : q.holdEntry.buffer = q.buffer := by
  simp only [PortH.holdEntry]
  split <;> simp_all

theorem PortH.holdEntry_complete {q : PortH} {f : Frame} (h : q.buffer = .complete f) : q.holdEntry.buffer = .complete f := by
  simp only [PortH.holdEntry]
  split <;> simp_all

theorem PortH.holdEntry_assembling {q : PortH} {bs : List Byte} {broken : Bool} (h : q.phase = .write)
    (hb : q.buffer = .assembling bs broken) : q.holdEntry.buffer = .empty := by
  simp [PortH.holdEntry, h, hb]

end Sys2Proof.Machine
end

