-- ==== Sys2Proof/WellFormed.lean ====
section
/-! DEFINITION. Which commands are well formed: a device number names one of the six select lines (R1), and a bus condition
falls part-way through a byte after at most seven of its bits (R151). Every other operand is in range by its type. -/

namespace Sys2Proof

/-- The range check on a command's operands. -/
def Instr.wellFormed : Instr → Bool
  | .probeTimerExpiry device => decide (device < 6)
  | .claimExpired device => decide (device < 6)
  | .startCondition partialBits => decide (partialBits < 8)
  | .stopCondition partialBits => decide (partialBits < 8)
  | .readStatus _ | .readNotices _ | .setNoticeMask _ | .setAttention _ | .defineDevice _ | .removeDevice _
  | .addEntry _ | .removeEntry _ | .setEntryAttr _ | .readEntry _ | .write _ | .activate _ | .deactivate _
  | .resync _ | .resetDevice _ | .readDevice _ | .rawWrite _ | .claim _ | .commit _ | .abandon _
  | .selectProfile _ | .setProfileSource _ | .saveImage _ | .restart _ | .probeGrant | .pushGrant | .markerGrant
  | .manualRead | .manualWrite | .followOnFrameStart | .pushWriteFrameEnd | .readbackEnd _ | .markerWriteFrameEnd
  | .confirmReadEnd _ | .probeReadEnd _ | .manualReadFrameEnd _ | .manualWriteFrameEnd | .pselChange _ | .lineChange
  | .holdChange _ | .saveEnd _ | .rstAssert | .rstRelease | .powerUp | .vddBelowRunLevel | .vddAboveRunLevel
  | .vddBelowRetainLevel | .startStepsComplete _ _ | .addressByte _ | .writeDataByte _ | .responseByteAck _
  | .lfrmAssert | .lfrmDeassert | .lstbFall _ | .inboundByteTake | .outboundLatchLoad | .lackAssert | .lackRise
  | .badFrameTake _ => true

end Sys2Proof
end

