-- ==== Sys2Proof/Tests/Slice0.lean ====
section
/-! SUPPORT. Tests: the well-formedness smoke, one or two small theorems for each command with results worked out from the
manual, and for each statement with hypotheses a witness that meets them, clause by clause. -/

namespace Sys2Proof.Tests

open Sys2Proof Sys2Proof.Machine

/-! ### Helpers -/

/-- The state that a command answers. -/
def run (c : Instr) (s : State) : State :=
  match exec c s with
  | .next t => t
  | _ => s

/-- Parameters: check register 0xF0, marker 0xA5A5, READBACK, retry limit 1, probing on, fence limit 2. -/
def ps : Params :=
  { checkRegister := 0xF0, marker := 0xA5A5, speedClass := 1, verifyPolicy := .readback, retryLimit := 1
    probeInterval := 10, fenceLimit := 2 }

/-- An entry with base 0x0100 and override 1 0x0200, in a state. -/
def ent (r : Register) (st : EntryState) : Entry :=
  { register := r, owner := .any, verifyMask := 0xFFFF, base := 0x0100, override1 := some 0x0200, override2 := none
    override3 := none, state := st, applied := if st = .applied then some 0x0100 else none, attempts := 0
    stagedBase := none, staged1 := none, staged2 := none, staged3 := none, mark := false }

def dev (st : DevState) (es : List Entry) : Device :=
  { params := ps, state := st, phase := .confirmed, probeRemaining := 10, probeElapsed := 0, probeDue := false
    losses := 0, profile := 0, entries := es }

/-- A hub that is READY with no device. -/
def hub : State :=
  { State.reset with
    hubState := .ready, portH := { PortH.cold with phase := .idle }, portL := { PortL.cold with framing := .idle } }

/-- The hub with device 0 in a state, with entries 0x10 APPLIED and 0x12 PENDING. -/
def dev0 (st : DevState) : Device := dev st [ent 0x10 .applied, ent 0x12 .pending]

def hub0 (st : DevState) : State := hub.setDevice 0 (dev0 st)

/-- A request waits at the head of a port's queue with tag 239. -/
def ask (p : Port) (r : Request) (s : State) : State :=
  { s.modPort p (fun q => { q with requests := [r.frame 239] }) with portRotation := p }

/-- The port has 4 requests outstanding. -/
def filled (p : Port) (s : State) : State :=
  s.modPort p (fun q => { q with outstanding := [1, 2, 3, 4].map (fun n => ⟨byteOf n, .saveImage, .save⟩) })

/-- Device 0 is claimed by a port with lease 3. -/
def held (p : Port) (s : State) : State := s.setClaim 0 (some ⟨p, 3, 0⟩)

/-- A transaction for device 0 with a frame of it on the link. -/
def onLink (k : TxnKind) (r : Register) (frame : Nat) (discard : Bool) (s : State) : State :=
  { s with
    txn := some
      { kind := k, device := 0, register := r
        requester := if k = .probe then .lossUnit else if k = .manualRead ∨ k = .manualWrite then .manual .h else .pushWalker
        frame := frame, readsMade := 0, discard := discard, params := ps }
    link := some { device := 0, op := .write, register := r, data := 0, speedClass := 1 } }

/-- The last outcome in a port's response queue. -/
def last (s : State) (p : Port) : Option OutcomeCode := (s.port p).responses.getLast?.map Response.outcome

theorem hub_device (d : DevNum) : hub.device d = none := by revert d; decide

theorem hub0_device (st : DevState) (d : DevNum) : (hub0 st).device d = if d = 0 then some (dev0 st) else none := by
  fin_cases d <;> rfl

/-! ### Well-formedness, decoding and formats -/

theorem test_wf_probeTimerExpiry : (Instr.probeTimerExpiry 6).wellFormed = false ∧ (Instr.probeTimerExpiry 5).wellFormed = true := by
  decide

theorem test_wf_claimExpired : (Instr.claimExpired 6).wellFormed = false ∧ (Instr.claimExpired 5).wellFormed = true := by decide

theorem test_wf_startCondition : (Instr.startCondition 8).wellFormed = false ∧ (Instr.startCondition 7).wellFormed = true := by decide

theorem test_wf_stopCondition : (Instr.stopCondition 8).wellFormed = false ∧ (Instr.stopCondition 7).wellFormed = true := by decide

theorem test_no_word_spells_a_command : decodeTableWord 16 0x2007 = none := by decide

/-- R189: WRITE of 0x1234 to device 0, register 0x10, slot 2, wait flag. -/
theorem test_frame_write :
    (Frame.mk [0x20, 7, 0, 0x10, 2, 1, 0x12, 0x34] false).request = some (.write 0 0x10 2 true false 0x1234) := by decide

/-- R189: DEFINE_DEVICE, 11 bytes. -/
theorem test_frame_define :
    (Frame.mk [0x10, 0, 5, 0xF0, 0xA5, 0xA5, 1, 1, 3, 250, 7] false).request =
      some (.defineDevice 5 0xF0 0xA5A5 1 1 3 250 7) := by decide

/-- R190: one byte short, one byte over, a tag of 240, a zero field that is not zero. -/
theorem test_frames_refused :
    (Frame.mk [0x21, 7, 0] false).request = none ∧ (Frame.mk [0x21, 7, 0, 0, 0] false).request = none ∧
      (Frame.mk [0x21, 240, 0, 0] false).request = none ∧ (Frame.mk [0x21, 7, 0, 2] false).request = none := by decide

/-- R195's example: a write of 0x0200 to register 0x22. -/
theorem test_link_frame :
    (LinkFrame.mk 0 .write 0x22 0x0200 0).writeBits = 0b010010001000000010000000001#27 := by decide

/-- R55: seventeen ones are a parity error; 0x0000 with parity 0 is a result. -/
theorem test_link_parity : readResult (BitVec.allOnes 17) = none ∧ readResult 0 = some 0 := by decide

/-- R191, R192: STARTED from bank B; PROFILE_SETTLED, profile 2, PARTIAL with 5. -/
theorem test_notice_records :
    (Notice.started .bankB).record = [1, 255, 0, 2] ∧ (Notice.profileSettled 2 5).record = [8, 255, 0xA0, 5] ∧
      (Response.mk 9 .ok (.value 0x1234)).bytes = [4, 9, 0, 0x12, 0x34] := by decide

/-! ### Commands: requests -/

theorem test_readStatus :
    last (run (.readStatus .h) (ask .h (.readStatus 255) hub)) .h = some .ok ∧
      last (run (.readStatus .l) (ask .l (.readStatus 3) hub)) .l = some .notFound := by decide

theorem test_readNotices :
    ((run (.readNotices .h) (ask .h .readNotices (hub.post .supplyRestored))).port .h).notices = [] ∧
      ((run (.readNotices .h) (ask .h .readNotices (hub.post .supplyRestored))).port .l).notices = [.supplyRestored] := by
  decide

theorem test_setNoticeMask : ((run (.setNoticeMask .l) (ask .l (.setNoticeMask 2) hub)).port .l).mask = 3 := by decide

/-- R144: the response-ready enable asserts attention at once, on the request's own answer. -/
theorem test_setAttention : (run (.setAttention .h) (ask .h (.setAttention true false) hub)).attention .h = true := by decide

theorem test_defineDevice :
    ((run (.defineDevice .h) (ask .h (.defineDevice 5 0xF0 0xA5A5 3 1 7 250 7) hub)).device 5).map Device.state = some .dormant ∧
      last (run (.defineDevice .h) (ask .h (.defineDevice 6 0xF0 0xA5A5 3 1 7 250 7) hub)) .h = some .badRequest := by decide

theorem test_removeDevice :
    (run (.removeDevice .h) (ask .h (.removeDevice 0) (hub0 .dormant))).device 0 = none ∧
      last (run (.removeDevice .h) (ask .h (.removeDevice 0) (hub0 .running))) .h = some .wrongState := by decide

theorem test_addEntry :
    ((run (.addEntry .h) (ask .h (.addEntry 0 0x11 3 1 0) (hub0 .running))).device 0).map
        (fun dv => dv.entries.map Entry.register) = some [0x10, 0x11, 0x12] ∧
      last (run (.addEntry .l) (ask .l (.addEntry 0 0x11 3 1 0) (hub0 .running))) .l = some .notPermitted := by decide

theorem test_removeEntry :
    ((run (.removeEntry .h) (ask .h (.removeEntry 0 0x10) (hub0 .running))).device 0).map
        (fun dv => dv.entries.map Entry.register) = some [0x12] := by decide

theorem test_setEntryAttr :
    ((run (.setEntryAttr .h) (ask .h (.setEntryAttr 0 0x10 2 0x00FF) (hub0 .running))).device 0).map
        (fun dv => dv.entries.map Entry.owner) = some [.l, .any] := by decide

theorem test_readEntry :
    ((run (.readEntry .l) (ask .l (.readEntry 0 0x11 true) (hub0 .running))).port .l).responses.map
        (fun r => (r.bytes.take 4, r.bytes.length)) = [([30, 239, 0, 0x12], 31)] := by decide

/-- R26: an APPLIED entry whose desired value moves becomes PENDING and keeps its applied value. -/
theorem test_write_moves :
    ((run (.write .h) (ask .h (.write 0 0x10 0 false false 0x0300) (hub0 .running))).device 0).map
        (fun dv => dv.entries.map (fun e => (e.state, e.applied, e.base))) =
      some [(.pending, some 0x0100, 0x0300), (.pending, none, 0x0100)] := by decide

/-- R42: the claim holder's write is staged. -/
theorem test_write_staged :
    last (run (.write .h) (ask .h (.write 0 0x10 1 true true 0) (held .h (hub0 .running)))) .h = some .staged ∧
      last (run (.write .l) (ask .l (.write 0 0x10 1 true true 0) (held .h (hub0 .running)))) .l = some .held := by decide

theorem test_activate :
    ((run (.activate .h) (ask .h (.activate 0 true) (hub0 .dormant))).device 0).map Device.state = some .loading ∧
      ((run (.activate .h) (ask .h (.activate 0 true) (hub0 .dormant))).port .h).outstanding.map Outstanding.wait =
        [.settle 0 none] := by decide

theorem test_deactivate :
    ((run (.deactivate .l) (ask .l (.deactivate 0) (hub0 .diverged))).device 0).map Device.state = some .dormant := by decide

theorem test_resync : last (run (.resync .h) (ask .h (.resync 0 false) (hub0 .fenced))) .h = some .fenced := by decide

theorem test_resetDevice :
    ((run (.resetDevice .h) (ask .h (.resetDevice 0 false) (hub0 .fenced))).device 0).map
      (fun dv => (dv.state, dv.losses)) = some (.loading, 0) := by decide

theorem test_readDevice :
    ((run (.readDevice .l) (ask .l (.readDevice 0 0xF0) (hub0 .fenced))).port .l).manual = [⟨.readDevice, 239, 0, 0xF0⟩] := by
  decide

theorem test_rawWrite :
    last (run (.rawWrite .l) (ask .l (.rawWrite 0 0xF0 1) (hub0 .fenced))) .l = some .managed ∧
      ((run (.rawWrite .l) (ask .l (.rawWrite 0 0xF1 1) (hub0 .fenced))).port .l).manual = [⟨.rawWrite 1, 239, 0, 0xF1⟩] := by
  decide

theorem test_claim : (run (.claim .l) (ask .l (.claim 0 255) (hub0 .running))).claim 0 = some ⟨.l, 255, 0⟩ := by decide

/-- R99, R100: the holder's COMMIT ends the claim; the other port is answered HELD. -/
theorem test_commit :
    (run (.commit .h) (ask .h (.commit 0 false) (held .h (hub0 .running)))).claim 0 = none ∧
      last (run (.commit .l) (ask .l (.commit 0 false) (held .h (hub0 .running)))) .l = some .held := by decide

theorem test_abandon : last (run (.abandon .h) (ask .h (.abandon 0) (hub0 .running))) .h = some .wrongState := by decide

/-- R117: profile 1 has an override, so the entries move and are marked. -/
theorem test_selectProfile :
    ((run (.selectProfile .h) (ask .h (.selectProfile 1 false) (hub0 .running))).device 0).map
      (fun dv => (dv.profile, dv.entries.map Entry.mark)) = some (1, [true, true]) := by decide

theorem test_setProfileSource :
    (run (.setProfileSource .h) (ask .h (.setProfileSource 1) hub)).profiles.source = .lines ∧
      last (run (.setProfileSource .h) (ask .h (.setProfileSource 2) hub)) .h = some .badRequest := by decide

theorem test_saveImage :
    (run (.saveImage .h) (ask .h .saveImage hub)).save.record.map (fun r => (r.bank, r.sequence)) = some (.a, 1) := by decide

theorem test_restart : (run (.restart .h) (ask .h .restart (hub0 .running))).hubState = .start := by decide

theorem test_badFrameTake :
    last (run (.badFrameTake .h) (hub.modPort .h (fun q => { q with requests := [⟨[0x21, 7, 0, 0], true⟩] }))) .h =
      some .badFrame := by decide

/-! ### Commands: link steps, timers and lines -/

theorem test_probeGrant :
    ((run .probeGrant (hub.setDevice 3 { dev .running [] with probeDue := true })).txn).map (fun t => (t.kind, t.device)) =
      some (.probe, 3) := by decide

theorem test_pushGrant :
    ((run .pushGrant (hub0 .running)).txn).map (fun t => (t.kind, t.register)) = some (.push, 0x12) ∧
      (run .pushGrant (hub0 .running)).rotation = .manualH := by decide

theorem test_markerGrant :
    ((run .markerGrant (hub.setDevice 0 { dev .loading [] with phase := .marker })).link).map (fun f => (f.register, f.data)) =
      some (0xF0, 0xA5A5) := by decide

theorem test_manualRead :
    ((run .manualRead (run (.readDevice .h) (ask .h (.readDevice 0 0x20) (hub0 .dormant)))).link).map
      (fun f => (f.op, f.register)) = some (.read, 0x20) := by decide

theorem test_manualWrite :
    ((run .manualWrite (run (.rawWrite .h) (ask .h (.rawWrite 0 0x20 5) (hub0 .dormant)))).link).map
      (fun f => (f.op, f.data)) = some (.write, 5) := by decide

theorem test_followOnFrameStart :
    ((run .followOnFrameStart { onLink .probe 0xF0 1 false (hub0 .running) with link := none }).txn).map Txn.frame = some 2 := by
  decide

/-- R29: under READBACK the write frame's end moves the entry to phase READBACK. -/
theorem test_pushWriteFrameEnd :
    ((run .pushWriteFrameEnd (onLink .push 0x10 1 false (hub.setDevice 0 (dev .running [ent 0x10 (.inFlight .write 0x0100)])))).device
      0).map (fun dv => dv.entries.map Entry.state) = some [.inFlight .readback 0x0100] := by decide

/-- R30: the second failed attempt, with retry limit 1, makes the entry FAILED. -/
theorem test_readbackEnd :
    ((run (.readbackEnd (sampleOf 0)) (onLink .push 0x10 2 false
      (hub.setDevice 0 (dev .running [{ ent 0x10 (.inFlight .readback 0x0100) with attempts := 1 }])))).device 0).map
      (fun dv => (dv.state, dv.entries.map Entry.state)) = some (.diverged, [.failed]) := by decide

theorem test_markerWriteFrameEnd :
    (run .markerWriteFrameEnd (onLink .marker 0xF0 1 false (hub0 .loading))).link = none := by decide

theorem test_confirmReadEnd :
    ((run (.confirmReadEnd (sampleOf 0xA5A5)) (onLink .marker 0xF0 2 false (hub.setDevice 0 (dev .loading [])))).device 0).map
      Device.state = some .running := by decide

/-- R82, R85: a mismatch counts a loss and begins a load. -/
theorem test_probeReadEnd :
    ((run (.probeReadEnd (sampleOf 0)) (onLink .probe 0xF0 1 false (hub0 .running))).device 0).map
      (fun dv => (dv.state, dv.losses)) = some (.loading, 1) := by decide

theorem test_manualReadFrameEnd :
    last (run (.manualReadFrameEnd (sampleOf 9)) (onLink .manualRead 0x20 1 false
      (run (.readDevice .h) (ask .h (.readDevice 0 0x20) (hub0 .dormant))))) .h = some .ok := by decide

theorem test_manualWriteFrameEnd :
    last (run .manualWriteFrameEnd (onLink .manualWrite 0x20 1 false
      (run (.rawWrite .h) (ask .h (.rawWrite 0 0x20 5) (hub0 .dormant))))) .h = some .ok := by decide

theorem test_probeTimerExpiry :
    ((run (.probeTimerExpiry 0) (hub0 .running)).device 0).map Device.probeDue = some true := by decide

theorem test_claimExpired :
    (run (.claimExpired 0) (held .l (hub0 .running))).claim 0 = none ∧
      (run (.claimExpired 0) (held .l (hub0 .running))).lateMark 0 .l = .expired := by decide

theorem test_pselChange : (run (.pselChange 2) hub).profiles.candidate = some 2 := by decide

theorem test_lineChange : (run .lineChange (run (.pselChange 2) hub)).profiles.lineLevel = 2 := by decide

theorem test_holdChange : (run .pushGrant (run (.holdChange true) (hub0 .running))).txn = none := by decide

/-! ### Commands: saves, start and supply -/

theorem test_saveEnd :
    (run (.saveEnd true) (run (.saveImage .h) (ask .h .saveImage hub))).save.lastOutcome = .ok ∧
      (run (.saveEnd true) (run (.saveImage .h) (ask .h .saveImage hub))).bankA.sequence? = some 1 := by decide

theorem test_rst : (run .rstAssert hub).hubState = .start ∧ (run .rstRelease (run .rstAssert hub)).inputs.rst = false := by decide

theorem test_powerUp :
    (run .powerUp (run .vddBelowRetainLevel hub)).hubState = .start ∧
      (run .powerUp (run .vddBelowRetainLevel hub)).inputs.supply = .belowRun := by decide

theorem test_vddBelowRunLevel : (run .vddBelowRunLevel hub).hubState = .lowSupply := by decide

theorem test_vddAboveRunLevel :
    (run .vddAboveRunLevel (run .vddBelowRunLevel (hub0 .running))).hubState = .ready ∧
      ((run .vddAboveRunLevel (run .vddBelowRunLevel (hub0 .running))).device 0).map Device.state = some .suspect := by decide

theorem test_vddBelowRetainLevel : (run .vddBelowRetainLevel (hub0 .running)).device 0 = none := by decide

theorem test_startStepsComplete :
    (run (.startStepsComplete 3 0) State.reset).hubState = .ready ∧
      ((run (.startStepsComplete 3 0) State.reset).port .l).notices = [.started .noImage] ∧
      (run (.startStepsComplete 3 0) State.reset).portH.address = 0x5F := by decide

/-- R186: SAVE_DONE, FAILED, comes before SUPPLY_RESTORED. -/
theorem test_aborted_save_notices :
    ((run .vddAboveRunLevel (run .vddBelowRunLevel (run (.saveImage .h) (ask .h .saveImage hub)))).port .l).notices =
      [.saveDone false 1, .supplyRestored] := by decide

/-- R188: 2.80 V, 2.90 V and 1.60 V. -/
theorem test_supply_levels :
    supplyCommands .aboveRun 2800 = [] ∧ supplyCommands .aboveRun 2799 = [.vddBelowRunLevel] ∧
    supplyCommands .belowRun 2900 = [] ∧ supplyCommands .belowRun 2901 = [.vddAboveRunLevel] ∧
    supplyCommands .belowRun 1599 = [.vddBelowRetainLevel] ∧ supplyCommands .belowRetain 1600 = [.powerUp] ∧
    supplyCommands .belowRetain 3300 = [.powerUp, .vddAboveRunLevel] ∧ rstCommands 999 = [] ∧
    rstCommands 1000 = [.rstAssert] := by decide

/-- R52, R53, R54, R56, R65: an idle link, the first bit of a write and bits 9 and 10 of a read at class 1, and the cut. -/
theorem test_link_lines :
    hub.linkLines 0 = ⟨none, none, none⟩ ∧
    (onLink .push 0x12 1 false hub).linkLines 1 = ⟨some 0, some 1000, some true⟩ ∧
    ((run .probeGrant (hub.setDevice 3 { dev .running [] with probeDue := true })).linkLines 0).ddat = some true ∧
    ((run .probeGrant (hub.setDevice 3 { dev .running [] with probeDue := true })).linkLines 9).ddat = some false ∧
    ((run .probeGrant (hub.setDevice 3 { dev .running [] with probeDue := true })).linkLines 10).ddat = none ∧
    (run .vddBelowRunLevel (onLink .push 0x12 1 false hub)).linkLines 1 = ⟨none, none, none⟩ := by decide

/-! ### Commands: the ports -/

/-- R159: UNSYNCED from READY to the first bus condition. -/
theorem test_unsynced :
    (run (.startStepsComplete 0 0) State.reset).portH.unsynced = true ∧
    (run (.addressByte 0xB8) (run (.startStepsComplete 0 0) State.reset)).portH.phase = .idle ∧
    (run (.stopCondition 0) (run (.startStepsComplete 0 0) State.reset)).portH.unsynced = false ∧
    (run (.startCondition 3) (run .vddAboveRunLevel (run .vddBelowRunLevel hub))).portH.phase = .address := by decide

/-- R160: the bytes assembled are discarded in WRITE; SKIP has no further effect. -/
theorem test_hold_on_port_h :
    (run .vddBelowRunLevel (hub.setPortH { hub.portH with phase := .write, buffer := .assembling [1] false })).portH.buffer =
      .empty ∧
    (run .vddBelowRunLevel (hub.setPortH { hub.portH with phase := .skip, buffer := .assembling [1] true })).portH.buffer =
      .assembling [1] true := by decide

theorem test_startCondition : (run (.startCondition 0) hub).portH.phase = .address := by decide

/-- R151: a STOP after three bits of a byte marks the frame broken and delivers the whole bytes before it. -/
theorem test_stopCondition :
    ((run (.stopCondition 3) (hub.setPortH { hub.portH with phase := .write, buffer := .assembling [0x02, 7] false })).port .h).requests =
      [⟨[0x02, 7], true⟩] := by decide

theorem test_addressByte :
    (run (.addressByte 0xB8) (run (.startCondition 0) hub)).portH.phase = .write ∧
      (run (.addressByte 0xB9) (run (.startCondition 0) hub)).portH.cursor = .fill ∧
      (run (.addressByte 0x00) (run (.startCondition 0) hub)).portH.phase = .idle := by decide

theorem test_writeDataByte :
    (run (.writeDataByte 1) (run (.addressByte 0xB8) (run (.startCondition 0) hub))).portH.buffer = .assembling [1] false := by
  decide

theorem test_responseByteAck :
    ((run (.responseByteAck false) { hub.respond .h 5 .ok .none with
      portH := { hub.portH with phase := .read, cursor := .sending 2 } }).port .h).responses = [] := by decide

theorem test_lfrm :
    (run .lfrmAssert hub).portL.framing = .opened ∧ (run .lfrmDeassert (run .lfrmAssert hub)).portL.framing = .idle := by decide

theorem test_lstbFall : (run (.lstbFall 0x21) (run .lfrmAssert hub)).portL.latch = some 0x21 := by decide

theorem test_inboundByteTake :
    (run .inboundByteTake (run (.lstbFall 0x21) (run .lfrmAssert hub))).portL.buffer = .assembling [0x21] false := by decide

theorem test_outboundLatchLoad : (run .outboundLatchLoad (hub.respond .l 5 .ok .none)).portL.outLatch = 2 := by decide

theorem test_lackAssert :
    (run .lackAssert (run .outboundLatchLoad (hub.respond .l 5 .ok .none))).ldDriven = some 2 := by decide

theorem test_lackRise :
    (run .lackRise (run .lackAssert (run .outboundLatchLoad (hub.respond .l 5 .ok .none)))).portL.cursor = some 1 := by decide


/-! ### Witnesses: the step, the take and the laws -/

theorem test_witness_IdleStepCountsOneMillisecond :
    (State.reset.pending = [] ∧ State.reset.hubState ≠ .ready) ∧
    (∀ dv : Device, (hub.setDevice 0 dv).pending = [] ∧ (hub.setDevice 0 dv).hubState = .ready ∧
      (hub.setDevice 0 dv).claims = PerDevice.const none ∧ (hub.setDevice 0 dv).profiles.candidate = none ∧
      (hub.setDevice 0 dv).device 0 = some dv ∧ (hub.setDevice 0 dv).device 1 = none) ∧
    (dev .dormant []).timerRuns = false ∧
    (({ dev .running [] with probeElapsed := 2 } : Device).timerRuns = true) ∧
    (({ dev .running [] with probeElapsed := 3, probeRemaining := 2 } : Device).timerRuns = true) ∧
    (({ dev .running [] with probeElapsed := 3, probeRemaining := 1 } : Device).timerRuns = true) ∧
    (∀ d dv, hub.device d = some dv → dv.timerRuns = false) ∧
    (∀ c : Claim, (hub.setClaim 0 (some c)).claims = (PerDevice.const none).set 0 (some c)) ∧
    ((⟨.h, 3, 8⟩ : Claim).elapsed < 9 ∧ 9 ≤ (⟨.h, 2, 9⟩ : Claim).elapsed ∧ 1 < (⟨.h, 2, 9⟩ : Claim).lease ∧
      (⟨.h, 1, 9⟩ : Claim).lease ≤ 1) ∧
    ((run (.pselChange 2) hub).profiles.candidate = some 2 ∧ (run (.pselChange 2) hub).profiles.candidateTime = 0 ∧
      (run (.pselChange 2) hub).claims = PerDevice.const none) :=
  ⟨by decide, fun _ => ⟨rfl, rfl, rfl, rfl, rfl, rfl⟩, by decide, by decide, by decide, by decide,
    fun d dv h => by rw [hub_device] at h; exact absurd h (by simp), fun _ => rfl, by decide, by decide⟩

/-- Frames for the queue and the buffers. -/
def f1 : Frame := (Request.readNotices).frame 1
def f2 : Frame := (Request.readNotices).frame 2

/-- The hub with frame f1 in both queues and a COMPLETE frame in each buffer. -/
def waiting (fr : Framing) : State :=
  { (hub.modPort .h (fun q => { q with requests := [f1] })).modPort .l (fun q => { q with requests := [f1] }) with
    portH := { hub.portH with buffer := .complete f2 }
    portL := { hub.portL with framing := fr, buffer := .complete f2 } }

theorem test_witness_TakeMovesTheQueueAndDelivers :
    ((ask .h .readNotices hub).port .h).requests = [Request.readNotices.frame 239] ∧
    (ask .h .readNotices hub).portH.buffer.isComplete = false ∧ (ask .l .readNotices hub).portL.buffer.isComplete = false ∧
    ((waiting .held).port .h).requests = [f1] ∧ (waiting .held).portH.buffer = .complete f2 ∧
    ((waiting .held).port .l).requests = [f1] ∧ (waiting .held).portL.buffer = .complete f2 ∧
    (waiting .held).portL.framing = .held ∧ (waiting .heldBroken).portL.framing = .heldBroken ∧
    (waiting .idle).portL.framing = .idle ∧ (waiting .unsynced).portL.framing = .unsynced ∧
    ((waiting .idle).canTake .h = true ∧ (waiting .idle).canTake .l = true ∧ (waiting .idle).nextTake = some .h ∧
      hub.canTake .h = false ∧ (ask .l .readNotices hub).nextTake = some .l) := by decide

/-- A state in which every law has something to say: device 0 has an IN_FLIGHT, an APPLIED and a FAILED entry and one with a
mark; device 1 is claimed, deferred, with a staged value; a push and a transition are in progress. -/
def rich : State :=
  { ((onLink .push 0x12 2 false hub).setDevice 0
      { dev .diverged
          [{ ent 0x10 .applied with applied := some 0x0200 }, { ent 0x12 (.inFlight .readback 0x0200) with mark := true },
           ent 0x14 .failed] with profile := 1 }).setDevice 1
      (dev .running [{ ent 0x10 .applied with stagedBase := some 5 }]) with
    claims := (PerDevice.const none).set 1 (some ⟨.l, 3, 0⟩)
    profiles :=
      { hub.profiles with
        target := 1
        transition := some { target := 1, unapplied := 0, deferred := (PerDevice.const false).set 1 true } }
    pending := [.readbackEnd (sampleOf 0x0200)] }

theorem test_witness_laws :
    rich.queueLaw = true ∧ rich.noticeLaw = true ∧ rich.imageLaw = true ∧ rich.lossLaw = true ∧ rich.appliedLaw = true ∧
    rich.flightLaw = true ∧ rich.stagedLaw = true ∧ rich.profileLaw = true ∧ rich.markLaw = true ∧ rich.failLaw = true ∧
    rich.idleLaw = true := by decide

theorem test_witness_laws_step :
    step rich = .next (run (.readbackEnd (sampleOf 0x0200)) { rich with pending := [] }) ∧
    ((run (.readbackEnd (sampleOf 0x0200)) { rich with pending := [] }).device 0).map
      (fun dv => dv.entries.map Entry.state) = some [.applied, .applied, .failed] := ⟨rfl, by decide⟩

/-! ### Witnesses: request frames -/

theorem test_witness_FramesDecodeToTheirRequest : (239 : Byte).toNat < 240 := by decide

/-- The hub with one frame at the head of a port's queue. -/
def frameAt (p : Port) (f : Frame) : State := { hub.modPort p (fun q => { q with requests := [f] }) with portRotation := p }

theorem test_witness_FramesAreJudgedInOrder :
    (Frame.mk [0x61, 239] false).names .restart = true ∧ (Frame.mk [0x61, 254] false).names .restart = true ∧
    ((frameAt .h ⟨[0x61, 7], true⟩).nextTake = some .h ∧
      ((frameAt .h ⟨[0x61, 7], true⟩).port .h).requests.head? = some ⟨[0x61, 7], true⟩) ∧
    ((frameAt .l ⟨[0x61, 255], false⟩).nextTake = some .l ∧ (Frame.mk [0x61, 255] false).tagReadable = false) ∧
    ((frameAt .h ⟨[0x62, 254], false⟩).nextTake = some .h ∧ (Frame.mk [0x62, 254] false).kind = none ∧
      (Frame.mk [0x62, 254] false).tagReadable = true) ∧
    ((frameAt .h ⟨[0x61, 7, 0], false⟩).nextTake = some .h ∧ (Frame.mk [0x61, 7, 0] false).names .restart = true ∧
      (Frame.mk [0x61, 7, 0] false).request = none) ∧
    ((filled .h (frameAt .h ⟨[0x61, 4], false⟩)).nextTake = some .h ∧
      ((filled .h (frameAt .h ⟨[0x61, 4], false⟩)).port .h).requests.head? = some ⟨[0x61, 4], false⟩ ∧
      (Frame.mk [0x61, 4] false).request.isSome = true ∧
      ((filled .h (frameAt .h ⟨[0x61, 4], false⟩)).port .h).outstanding.any (fun o => decide (o.tag = 4)) = true) ∧
    ((filled .l (frameAt .l ⟨[0x61, 5], false⟩)).nextTake = some .l ∧ (Frame.mk [0x61, 5] false).names .restart = true ∧
      (Frame.mk [0x61, 5] false).request.isSome = true ∧ ReqKind.restart.hOnly = true ∧
      ∀ o ∈ ((filled .l (frameAt .l ⟨[0x61, 5], false⟩)).port .l).outstanding, o.tag ≠ 5) := by decide

theorem test_witness_NoDeviceIsNotFoundAndAClaimBars :
    ((ask .l (.resync 6 true) (hub0 .running)).Takes .l (.resync 6 true) 239 ∧ (Request.resync 6 true).device? = some 6 ∧
      ∀ d dv, ¬ (ask .l (.resync 6 true) (hub0 .running)).Names 6 d dv) ∧
    ((ask .h (.addEntry 0 0x20 3 0 0) (held .h (hub0 .running))).Takes .h (.addEntry 0 0x20 3 0 0) 239 ∧
      (Request.addEntry 0 0x20 3 0 0).device? = some 0 ∧
      (ask .h (.addEntry 0 0x20 3 0 0) (held .h (hub0 .running))).Names 0 0 (dev0 .running) ∧
      ((ask .h (.addEntry 0 0x20 3 0 0) (held .h (hub0 .running))).claim 0).isSome = true) ∧
    ((ask .l (.deactivate 0) (held .h (hub0 .running))).Takes .l (.deactivate 0) 239 ∧
      (ask .l (.deactivate 0) (held .h (hub0 .running))).Names 0 0 (dev0 .running)) := by
  refine ⟨⟨by decide, by decide, fun d dv h => ?_⟩, by decide, by decide⟩
  have h1 : (6 : Byte).toNat = d.val := h.1
  have := d.isLt
  simp at h1
  omega

/-! ### Witnesses: status and notices -/

theorem test_witness_ReadStatusReportsTheStandingState :
    (ask .h (.readStatus 255) (hub0 .running)).Takes .h (.readStatus 255) 239 ∧
    ((ask .h (.readStatus 254) (hub0 .running)).Takes .h (.readStatus 254) 239 ∧
      ∀ d dv, ¬ (ask .h (.readStatus 254) (hub0 .running)).Names 254 d dv) ∧
    ((ask .l (.readStatus 0) (hub0 .running)).Takes .l (.readStatus 0) 239 ∧
      (ask .l (.readStatus 0) (hub0 .running)).Names 0 0 (dev0 .running)) := by
  refine ⟨by decide, ⟨by decide, fun d dv h => ?_⟩, by decide⟩
  have h1 : (254 : Byte).toNat = d.val := h.1
  have := d.isLt
  simp at h1
  omega

theorem test_witness_NoticeRequestsShapeAndDrain :
    (ask .h .readNotices (hub.post .supplyRestored)).Takes .h .readNotices 239 ∧
    (ask .l (.setNoticeMask 1023) hub).Takes .l (.setNoticeMask 1023) 239 ∧
    (ask .l (.setAttention true true) hub).Takes .l (.setAttention true true) 239 := by decide

/-- A list of 16 notices with distinct kinds or devices. -/
def sixteen : List Notice :=
  [.deviceLost 0, .deviceLost 1, .deviceLost 2, .deviceLost 3, .deviceLost 4, .deviceLost 5, .deviceFenced 0, .deviceFenced 1,
   .deviceFenced 2, .deviceFenced 3, .deviceFenced 4, .deviceFenced 5, .claimBroken 0, .claimBroken 1, .claimBroken 2,
   .claimBroken 3]

theorem test_witness_NoticesCoalesceOrJoinOrAreLost :
    maskAdmits 1 NoticeKind.deviceLost = false ∧ maskAdmits 1 NoticeKind.started = true ∧
    (∃ m ∈ sixteen, m.kind = (Notice.deviceLost 5).kind ∧ m.device = (Notice.deviceLost 5).device) ∧
    ((∀ m ∈ sixteen.take 15, ¬ (m.kind = (Notice.claimBroken 3).kind ∧ m.device = (Notice.claimBroken 3).device)) ∧
      (sixteen.take 15).length < 16) ∧
    ((∀ m ∈ sixteen, ¬ (m.kind = (Notice.claimBroken 4).kind ∧ m.device = (Notice.claimBroken 4).device)) ∧
      16 ≤ sixteen.length) := by decide

/-! ### Witnesses: the configuration image -/

theorem test_witness_DeviceRecordsAreDefinedAndRemoved :
    (ask .h (.defineDevice 6 0 0 3 1 7 250 7) hub).Takes .h (.defineDevice 6 0 0 3 1 7 250 7) 239 ∧
    (ask .h (.defineDevice 5 0 0 3 1 7 250 8) hub).Takes .h (.defineDevice 5 0 0 3 1 7 250 8) 239 ∧
    ((ask .h (.defineDevice 0 0 0 3 1 7 250 7) (hub0 .dormant)).Takes .h (.defineDevice 0 0 0 3 1 7 250 7) 239 ∧
      ((ask .h (.defineDevice 0 0 0 3 1 7 250 7) (hub0 .dormant)).device 0).isSome = true) ∧
    ((ask .h (.defineDevice 5 0 0 3 1 7 250 1) (hub0 .dormant)).Takes .h (.defineDevice 5 0 0 3 1 7 250 1) 239 ∧
      (ask .h (.defineDevice 5 0 0 3 1 7 250 1) (hub0 .dormant)).device 5 = none) ∧
    (∀ st, (ask .h (.removeDevice 0) (hub0 st)).Takes .h (.removeDevice 0) 239 ∧
      (ask .h (.removeDevice 0) (hub0 st)).Names 0 0 (dev0 st) ∧ (ask .h (.removeDevice 0) (hub0 st)).claim 0 = none ∧
      (∀ q, ((ask .h (.removeDevice 0) (hub0 st)).port q).manual = []) ∧
      (ask .h (.removeDevice 0) (hub0 st)).txn = none) ∧
    (((run (.readDevice .l) (ask .l (.readDevice 0 1) (hub0 .dormant))).port .l).manual.any (fun x => decide (x.device = 0)) = true ∧
      (ask .h (.removeDevice 0) (run (.readDevice .l) (ask .l (.readDevice 0 1) (hub0 .dormant)))).Takes .h (.removeDevice 0) 239) ∧
    ((ask .h (.removeDevice 0) (onLink .manualWrite 1 1 false (hub0 .dormant))).Takes .h (.removeDevice 0) 239 ∧
      (onLink .manualWrite 1 1 false (hub0 .dormant)).txn.map (fun t => (t.kind, t.device)) = some (.manualWrite, 0)) := by
  refine ⟨by decide, by decide, by decide, by decide, fun st => ⟨?_, ?_, rfl, fun q => ?_, rfl⟩, by decide, by decide⟩
  · cases st <;> decide
  · exact ⟨rfl, rfl⟩
  · cases q <;> rfl

/-- A list of 128 entries. -/
def many : List Entry := (List.range 128).map (fun n => ent (BitVec.ofNat 8 n) .applied)

theorem test_witness_AddEntryInsertsInOrder :
    ((ask .h (.addEntry 0 0x11 4 1 0) (hub0 .running)).Takes .h (.addEntry 0 0x11 4 1 0) 239 ∧
      (ask .h (.addEntry 0 0x11 4 1 0) (hub0 .running)).Names 0 0 (dev0 .running)) ∧
    ((ask .h (.addEntry 0 0x12 1 1 0) (hub0 .running)).Takes .h (.addEntry 0 0x12 1 1 0) 239 ∧
      (ask .h (.addEntry 0 0x12 1 1 0) (hub0 .running)).claim 0 = none ∧ ∃ e ∈ (dev0 .running).entries, e.register = 0x12) ∧
    ((ask .h (.addEntry 0 0xF0 1 1 0) (hub0 .running)).Takes .h (.addEntry 0 0xF0 1 1 0) 239 ∧
      (0xF0 : Byte) = (dev0 .running).params.checkRegister) ∧
    ((ask .h (.addEntry 0 0xFF 2 1 0) (hub.setDevice 0 (dev .running many))).Takes .h (.addEntry 0 0xFF 2 1 0) 239 ∧
      (∀ e ∈ (dev .running many).entries, e.register ≠ 0xFF) ∧ 128 ≤ (dev .running many).entries.length) ∧
    ((ask .h (.addEntry 0 0xFF 3 1 0) (hub.setDevice 0 (dev .running (many.take 127)))).Takes .h (.addEntry 0 0xFF 3 1 0) 239 ∧
      (∀ e ∈ (dev .running (many.take 127)).entries, e.register ≠ 0xFF) ∧
      (dev .running (many.take 127)).entries.length < 128 ∧
      (ask .h (.addEntry 0 0xFF 3 1 0) (hub.setDevice 0 (dev .running (many.take 127)))).poolInUse < 320) := by decide +kernel

theorem test_witness_RemoveEntryAbortsItsWaits :
    ((ask .h (.removeEntry 0 0x11) (hub0 .running)).Takes .h (.removeEntry 0 0x11) 239 ∧
      (ask .h (.removeEntry 0 0x11) (hub0 .running)).Names 0 0 (dev0 .running) ∧
      (ask .h (.removeEntry 0 0x11) (hub0 .running)).claim 0 = none ∧ ∀ e ∈ (dev0 .running).entries, e.register ≠ 0x11) ∧
    ((ask .h (.removeEntry 0 0x12) (hub0 .running)).Takes .h (.removeEntry 0 0x12) 239 ∧
      findEntry 0x12 (dev0 .running).entries = some (ent 0x12 .pending) ∧ (ent 0x12 .pending).isInFlight = false) ∧
    ((ask .h (.removeEntry 0 0x12) rich).Takes .h (.removeEntry 0 0x12) 239 ∧ rich.claim 0 = none ∧
      ((rich.device 0).bind (fun dv => findEntry 0x12 dv.entries)).map Entry.isInFlight = some true) ∧
    (({ dev0 .running with entries := [ent 0x10 .applied] } : Device).Settled ∧ ¬ (dev0 .running).Settled) ∧
    ((ask .h (.removeEntry 0 0x12) (run .vddAboveRunLevel (run .vddBelowRunLevel rich))).Takes .h (.removeEntry 0 0x12) 239 ∧
      (((run .vddAboveRunLevel (run .vddBelowRunLevel rich)).device 0).bind (fun dv => findEntry 0x12 dv.entries)).map
        (fun e => (e.isInFlight, e.mark)) = some (false, true) ∧
      (run .vddAboveRunLevel (run .vddBelowRunLevel rich)).profiles.transition.isSome = true) := by decide

theorem test_witness_SetEntryAttrSetsOwnerAndMask :
    ((ask .h (.setEntryAttr 0 0x10 0 0) (hub0 .running)).Takes .h (.setEntryAttr 0 0x10 0 0) 239 ∧
      (ask .h (.setEntryAttr 0 0x10 0 0) (hub0 .running)).Names 0 0 (dev0 .running)) ∧
    ((ask .h (.setEntryAttr 0 0x11 1 0) (hub0 .running)).Takes .h (.setEntryAttr 0 0x11 1 0) 239 ∧
      ∀ e ∈ (dev0 .running).entries, e.register ≠ 0x11) ∧
    ((ask .h (.setEntryAttr 0 0x10 3 0) (hub0 .running)).Takes .h (.setEntryAttr 0 0x10 3 0) 239 ∧
      ∃ e ∈ (dev0 .running).entries, e.register = 0x10) := by decide

theorem test_witness_ReadEntryReturnsTheView :
    ascending ((dev0 .running).entries.map Entry.register) = true ∧
    ((ask .l (.readEntry 0 0x13 true) (hub0 .running)).Takes .l (.readEntry 0 0x13 true) 239 ∧
      (ask .l (.readEntry 0 0x13 true) (hub0 .running)).Names 0 0 (dev0 .running) ∧
      ∀ e ∈ (dev0 .running).entries, e.register.toNat < 0x13) ∧
    ((ask .l (.readEntry 0 0x11 false) (hub0 .running)).Takes .l (.readEntry 0 0x11 false) 239 ∧
      ∀ e ∈ (dev0 .running).entries, e.register ≠ 0x11) ∧
    ((ask .l (.readEntry 0 0x11 true) (hub0 .running)).Takes .l (.readEntry 0 0x11 true) 239 ∧
      ∃ e ∈ (dev0 .running).entries, 0x11 ≤ e.register.toNat ∧
        ∀ x ∈ (dev0 .running).entries, 0x11 ≤ x.register.toNat → e.register.toNat ≤ x.register.toNat) ∧
    ((ask .l (.readEntry 0 0x12 false) (hub0 .running)).Takes .l (.readEntry 0 0x12 false) 239 ∧
      ∃ e ∈ (dev0 .running).entries, e.register = 0x12) := by decide

/-! ### Witnesses: keeping devices in step -/

/-- A committed write of 0x0300 to slot 0. -/
def put0 (x : Entry) : Entry := { x with base := 0x0300 }

theorem test_witness_CommittedChangesMoveTheEntryState :
    (∀ x, (put0 x).state = x.state ∧ (put0 x).applied = x.applied ∧ (put0 x).attempts = x.attempts ∧ (put0 x).mark = x.mark) ∧
    (put0 (ent 0 .applied)).desired 1 = (ent 0 .applied).desired 1 ∧
    (put0 (ent 0 .applied)).desired 0 ≠ (ent 0 .applied).desired 0 ∧
    (put0 (ent 0 .failed)).desired 3 ≠ (ent 0 .failed).desired 3 ∧
    (put0 (ent 0 .pending)).desired 2 ≠ (ent 0 .pending).desired 0 ∧
    (put0 (ent 0 (.inFlight .write 1))).desired 1 ≠ (ent 0 (.inFlight .write 1)).desired 0 ∧
    (put0 (ent 0 (.inFlight .write 1))).desired 1 ≠ (put0 (ent 0 (.inFlight .write 1))).desired 0 :=
  ⟨fun _ => ⟨rfl, rfl, rfl, rfl⟩, by decide, by decide, by decide, by decide, by decide, by decide⟩

/-- Device 0 with an entry of owner H. -/
def hubOwned : State := hub.setDevice 0 (dev .running [{ ent 0x10 .applied with owner := .h }])

theorem test_witness_WriteIsRefusedOrStaged :
    ((ask .h (.write 0 0x11 0 false false 1) (hub0 .running)).Takes .h (.write 0 0x11 0 false false 1) 239 ∧
      (ask .h (.write 0 0x11 0 false false 1) (hub0 .running)).Names 0 0 (dev0 .running) ∧
      ∀ e ∈ (dev0 .running).entries, e.register ≠ 0x11) ∧
    findEntry 0x10 (dev0 .running).entries = some (ent 0x10 .applied) ∧
    ((ask .h (.write 0 0x10 4 false false 1) (hub0 .running)).Takes .h (.write 0 0x10 4 false false 1) 239 ∧
      4 ≤ (4 : Byte).toNat) ∧
    (ask .h (.write 0 0x10 0 false true 1) (hub0 .running)).Takes .h (.write 0 0x10 0 false true 1) 239 ∧
    ((ask .l (.write 0 0x10 3 false false 1) hubOwned).Takes .l (.write 0 0x10 3 false false 1) 239 ∧
      ((hubOwned.device 0).bind (fun dv => findEntry 0x10 dv.entries)).map Entry.owner = some .h) ∧
    ((ask .h (.write 0 0x10 3 true true 1) (held .l (hub0 .running))).Takes .h (.write 0 0x10 3 true true 1) 239 ∧
      (held .l (hub0 .running)).claim 0 = some ⟨.l, 3, 0⟩) ∧
    ((ask .h (.write 0 0x10 0 true false 1) (held .h (hub0 .fenced))).Takes .h (.write 0 0x10 0 true false 1) 239 ∧
      (held .h (hub0 .fenced)).claim 0 = some ⟨.h, 3, 0⟩) := by decide

/-- A committed WRITE of v to a slot of register 0x10 waits at Port H, in a state of device 0. -/
def writeAt (sl : Byte) (v : Value) (wait : Bool) (st : DevState) : State := ask .h (.write 0 0x10 sl wait false v) (hub0 st)

theorem test_witness_CommittedWriteStoresAndAnswers :
    (∀ wait, (writeAt 3 1 wait .running).Takes .h (.write 0 0x10 (BitVec.ofNat 8 (3 : Fin 4).val) wait false 1) 239) ∧
    ((writeAt 3 1 true .running).Names 0 0 (dev0 .running) ∧ (writeAt 3 1 true .running).claim 0 = none ∧
      findEntry 0x10 (dev0 .running).entries = some (ent 0x10 .applied) ∧
      (ent 0x10 .applied).owner ≠ .h ∧ (ent 0x10 .applied).owner ≠ .l) ∧
    ((writeAt 3 1 true .dormant).Takes .h (.write 0 0x10 3 true false 1) 239 ∧
      (writeAt 3 1 true .dormant).Names 0 0 (dev0 .dormant)) ∧
    ((writeAt 3 1 true .fenced).Takes .h (.write 0 0x10 3 true false 1) 239 ∧
      (writeAt 3 1 true .fenced).Names 0 0 (dev0 .fenced)) ∧
    (({ ent 0x10 .applied with override3 := some 1 } : Entry).desired 0 = (ent 0x10 .applied).desired 0 ∧
      (ent 0x10 .applied).applied = some 0x0100) ∧
    (findEntry 0x10 (dev .diverged [ent 0x10 .failed]).entries = some (ent 0x10 .failed) ∧
      ({ ent 0x10 .failed with override3 := some 1 } : Entry).desired 0 = (ent 0x10 .failed).desired 0) ∧
    ((filled .h (writeAt 0 1 true .running)).Takes .h (.write 0 0x10 (BitVec.ofNat 8 (0 : Fin 4).val) true false 1) 239 ∧
      (filled .h (writeAt 0 1 true .running)).full .h ∧
      ({ ent 0x10 .applied with base := 1 } : Entry).desired 0 ≠ (ent 0x10 .applied).desired 0) ∧
    ¬ (writeAt 0 1 true .running).full .h := by decide

theorem test_witness_ActivateResyncAndResetBeginALoad :
    (∀ st, (hub0 st).device 0 = some (dev0 st) ∧ (hub0 st).claim 0 = none) ∧
    (ask .l (.activate 0 true) (hub0 .running)).Takes .l (.activate 0 true) 239 ∧
    ((filled .l (ask .l (.activate 0 true) (hub0 .dormant))).Takes .l (.activate 0 true) 239 ∧
      (filled .l (ask .l (.activate 0 true) (hub0 .dormant))).full .l) ∧
    ((ask .l (.activate 0 true) (hub0 .dormant)).Takes .l (.activate 0 true) 239 ∧
      ¬ (ask .l (.activate 0 true) (hub0 .dormant)).full .l) ∧
    (ask .l (.resync 0 true) (hub0 .fenced)).Takes .l (.resync 0 true) 239 ∧
    (ask .l (.resync 0 true) (hub0 .loading)).Takes .l (.resync 0 true) 239 ∧
    ((filled .l (ask .l (.resync 0 true) (hub0 .suspect))).Takes .l (.resync 0 true) 239 ∧
      (filled .l (ask .l (.resync 0 true) (hub0 .suspect))).full .l) ∧
    ((ask .l (.resync 0 false) (hub0 .diverged)).Takes .l (.resync 0 false) 239) ∧
    (ask .l (.resetDevice 0 true) (hub0 .suspect)).Takes .l (.resetDevice 0 true) 239 ∧
    ((filled .l (ask .l (.resetDevice 0 true) (hub0 .fenced))).Takes .l (.resetDevice 0 true) 239 ∧
      (filled .l (ask .l (.resetDevice 0 true) (hub0 .fenced))).full .l) ∧
    (ask .l (.resetDevice 0 true) (hub0 .diverged)).Takes .l (.resetDevice 0 true) 239 := by
  refine ⟨fun st => ⟨rfl, rfl⟩, ?_, ?_, ?_, ?_, ?_, ?_, ?_, ?_, ?_, ?_⟩ <;> decide

theorem test_witness_DeactivateEndsManagement :
    ((ask .l (.deactivate 0) (hub0 .dormant)).Takes .l (.deactivate 0) 239 ∧
      (ask .l (.deactivate 0) (hub0 .dormant)).Names 0 0 (dev0 .dormant) ∧
      (ask .l (.deactivate 0) (hub0 .dormant)).claim 0 = none) ∧
    ((ask .l (.deactivate 0) rich).Takes .l (.deactivate 0) 239 ∧ (ask .l (.deactivate 0) rich).claim 0 = none ∧
      ((ask .l (.deactivate 0) rich).device 0).map (fun dv => (decide (dv.state = .dormant), dv.markCount)) = some (false, 1) ∧
      (ask .l (.deactivate 0) rich).profiles.transition.isSome = true) ∧
    ((ask .l (.deactivate 0) (hub0 .fenced)).Takes .l (.deactivate 0) 239 ∧ (dev0 .fenced).markCount = 0) := by decide

theorem test_witness_ManualRequestsJoinTheQueue :
    ((filled .l (ask .l (.readDevice 0 0xFF) (hub0 .dormant))).Takes .l (.readDevice 0 0xFF) 239 ∧
      (filled .l (ask .l (.readDevice 0 0xFF) (hub0 .dormant))).full .l) ∧
    ((ask .l (.readDevice 0 0xFF) (hub0 .fenced)).Takes .l (.readDevice 0 0xFF) 239 ∧
      (ask .l (.readDevice 0 0xFF) (hub0 .fenced)).Names 0 0 (dev0 .fenced) ∧
      ¬ (ask .l (.readDevice 0 0xFF) (hub0 .fenced)).full .l) ∧
    ((ask .h (.rawWrite 0 0x12 1) (hub0 .fenced)).Takes .h (.rawWrite 0 0x12 1) 239 ∧
      ∃ e ∈ (dev0 .fenced).entries, e.register = 0x12) ∧
    ((ask .h (.rawWrite 0 0xF0 1) (hub0 .fenced)).Takes .h (.rawWrite 0 0xF0 1) 239 ∧
      (0xF0 : Byte) = (dev0 .fenced).params.checkRegister) ∧
    ((filled .h (ask .h (.rawWrite 0 0xFF 1) (hub0 .fenced))).Takes .h (.rawWrite 0 0xFF 1) 239 ∧
      (∀ e ∈ (dev0 .fenced).entries, e.register ≠ 0xFF) ∧ (0xFF : Byte) ≠ (dev0 .fenced).params.checkRegister ∧
      (filled .h (ask .h (.rawWrite 0 0xFF 1) (hub0 .fenced))).full .h) ∧
    ((ask .h (.rawWrite 0 0xFF 1) (hub0 .fenced)).Takes .h (.rawWrite 0 0xFF 1) 239 ∧
      ¬ (ask .h (.rawWrite 0 0xFF 1) (hub0 .fenced)).full .h) := by decide

/-! ### Witnesses: claims and profiles -/

theorem test_witness_ClaimGrantsOrRenews :
    ((ask .l (.claim 0 0) (hub0 .running)).Takes .l (.claim 0 0) 239 ∧
      (ask .l (.claim 0 0) (hub0 .running)).Names 0 0 (dev0 .running)) ∧
    ((ask .l (.claim 0 1) (held .h (hub0 .running))).Takes .l (.claim 0 1) 239 ∧
      (held .h (hub0 .running)).claim 0 = some ⟨.h, 3, 0⟩) ∧
    ((ask .l (.claim 0 255) (held .l (hub0 .running))).Takes .l (.claim 0 255) 239 ∧
      (held .l (hub0 .running)).claim 0 = some ⟨.l, 3, 0⟩) ∧
    ((ask .l (.claim 0 255) (hub0 .running)).Takes .l (.claim 0 255) 239 ∧ (hub0 .running).claim 0 = none) := by decide

/-- A COMMIT of device 0 waits at Port H, which holds the claim, with a device record. -/
def commitAt (wait : Bool) (dv : Device) : State := ask .h (.commit 0 wait) (held .h (hub.setDevice 0 dv))

/-- The record that a COMMIT with nothing staged and no deferred switch leaves. -/
def committed (dv : Device) : Device :=
  Device.reexamine false { dv with entries := dv.entries.map (Entry.change Entry.commitStaged dv.profile dv.profile dv.state) }

theorem test_witness_CommitAppliesTheStagedValues :
    (∀ dv wait, (commitAt wait dv).Names 0 0 dv ∧ (commitAt wait dv).claim 0 = some ⟨.h, 3, 0⟩ ∧
      (commitAt wait dv).deferred 0 = false ∧ (commitAt wait dv).markerGranted 0 = false) ∧
    ((commitAt true (dev0 .running)).Takes .h (.commit 0 true) 239 ∧
      (filled .h (commitAt true (dev0 .running))).Takes .h (.commit 0 true) 239 ∧
      (filled .h (commitAt true (dev0 .running))).full .h) ∧
    ((commitAt false (dev0 .running)).Takes .h (.commit 0 false) 239 ∧ (committed (dev0 .running)).settled = false) ∧
    ((commitAt true (dev0 .dormant)).Takes .h (.commit 0 true) 239 ∧ (committed (dev0 .dormant)).state = .dormant) ∧
    ((commitAt true (dev0 .fenced)).Takes .h (.commit 0 true) 239 ∧ (committed (dev0 .fenced)).state = .fenced) ∧
    ((commitAt true (dev .running [])).Takes .h (.commit 0 true) 239 ∧ (committed (dev .running [])).settled = true ∧
      (committed (dev .running [])).state = .running) ∧
    ((commitAt true (dev .diverged [ent 1 .failed])).Takes .h (.commit 0 true) 239 ∧
      (committed (dev .diverged [ent 1 .failed])).settled = true ∧
      (committed (dev .diverged [ent 1 .failed])).state = .diverged) ∧
    (rich.deferred 1 = true ∧ (ask .l (.commit 1 false) rich).Takes .l (.commit 1 false) 239 ∧
      rich.claim 1 = some ⟨.l, 3, 0⟩) := by
  refine ⟨fun dv wait => ⟨⟨rfl, rfl⟩, rfl, rfl, rfl⟩, ?_, ?_, ?_, ?_, ?_, ?_, ?_⟩ <;> decide

theorem test_witness_AbandonDiscardsAndLateMarksAnswerOnce :
    ((ask .l (.abandon 1) rich).Takes .l (.abandon 1) 239 ∧ rich.claim 1 = some ⟨.l, 3, 0⟩ ∧ rich.deferred 1 = true) ∧
    ((ask .h (.abandon 0) (held .h (hub0 .running))).Takes .h (.abandon 0) 239 ∧
      (held .h (hub0 .running)).deferred 0 = false) ∧
    ((ask .h (.commit 0 true) ((hub0 .running).setLate 0 .h .expired)).Takes .h (.commit 0 true) 239 ∧
      (ask .h (.commit 0 true) ((hub0 .running).setLate 0 .h .expired)).Names 0 0 (dev0 .running) ∧
      (hub0 .running).claim 0 = none ∧ ((hub0 .running).setLate 0 .h .expired).lateMark 0 .h = .expired) ∧
    ((ask .h (.abandon 0) (held .l ((hub0 .running).setLate 0 .h .broken))).Takes .h (.abandon 0) 239 ∧
      (held .l ((hub0 .running).setLate 0 .h .broken)).lateMark 0 .h = .broken) ∧
    ((ask .h (.abandon 0) (held .l (hub0 .running))).Takes .h (.abandon 0) 239 ∧
      ((held .l (hub0 .running)).claim 0).map Claim.holder = some .l ∧ (held .l (hub0 .running)).lateMark 0 .h = .none) ∧
    ((ask .h (.abandon 0) (hub0 .running)).Takes .h (.abandon 0) 239 ∧ (hub0 .running).lateMark 0 .h = .none) := by decide

/-- The hub with a profile source. -/
def sourced (x : ProfileSource) (s : State) : State := { s with profiles := { s.profiles with source := x } }

theorem test_witness_SelectProfileOfTheTargetOrRefused :
    ((ask .h (.selectProfile 1 true) (sourced .lines hub)).Takes .h (.selectProfile 1 true) 239 ∧
      (sourced .lines hub).profiles.source = .lines) ∧
    ((ask .h (.selectProfile 4 true) hub).Takes .h (.selectProfile 4 true) 239 ∧ hub.profiles.source = .requests) ∧
    ((ask .h (.selectProfile 0 true) hub).Takes .h (.selectProfile 0 true) 239 ∧ hub.profiles.transition = none ∧
      (0 : Byte).toNat = hub.profiles.target.val) ∧
    ((ask .h (.selectProfile 1 true) (filled .h rich)).Takes .h (.selectProfile 1 true) 239 ∧ (filled .h rich).full .h ∧
      rich.profiles.transition.isSome = true ∧ (1 : Byte).toNat = rich.profiles.target.val) ∧
    ((ask .h (.selectProfile 1 true) (rich.await .h ⟨5, .selectProfile, .transition⟩)).Takes .h (.selectProfile 1 true) 239 ∧
      ∃ o ∈ ((rich.await .h ⟨5, .selectProfile, .transition⟩).port .h).outstanding, o.wait = .transition) ∧
    ((ask .h (.selectProfile 1 true) rich).Takes .h (.selectProfile 1 true) 239 ∧ ¬ rich.full .h ∧
      ∀ o ∈ (rich.port .h).outstanding, o.wait ≠ .transition) := by decide

/-- The record of a device after a switch of `rich` to profile 3, and whether it is deferred. -/
def switched (s : State) (d : DevNum) : Option Device :=
  (s.device d).map fun dv =>
    Device.reexamine (s.markerGranted d)
      (if (s.claim d).isSome = true then dv
      else { dv with profile := 3, entries := dv.entries.map (Entry.change id dv.profile 3 dv.state) })

/-- The hub with a transition in flight that nothing holds up, its waiter at Port H, and one value unapplied. -/
def settling : State :=
  { hub.await .h ⟨5, .selectProfile, .transition⟩ with
    profiles := { hub.profiles with transition := some { target := 0, unapplied := 1, deferred := PerDevice.const false } } }

/-- R121: PROFILE_SETTLED is posted PARTIAL, the waiter is answered FAILED with the count, the record is removed. -/
theorem test_completion :
    (settling.completionTest.port .h).notices = [.profileSettled 0 1] ∧
    (settling.completionTest.port .h).responses = [⟨5, .failed, .unapplied 1⟩] ∧
    settling.completionTest.profiles.transition = none ∧ (settling.completionTest.port .h).outstanding = [] := by decide

theorem test_witness_completionTest :
    hub.profiles.transition = none ∧
    (rich.profiles.transition.isSome = true ∧
      (rich.device 0).map (fun dv => dv.entries.any Entry.mark) = some true ∧
      rich.profiles.transition.map (fun tr => tr.deferred.get 1) = some true) ∧
    (settling.profiles.transition.map Transition.deferred = some (PerDevice.const false) ∧ ∀ d, settling.device d = none) := by
  refine ⟨by decide, by decide, by decide, fun d => ?_⟩
  revert d; decide

theorem test_witness_SelectProfileSwitchesEveryDevice :
    ((ask .h (.selectProfile (BitVec.ofNat 8 (3 : Profile).val) true) (filled .h rich)).Takes .h
        (.selectProfile (BitVec.ofNat 8 (3 : Profile).val) true) 239 ∧
      (filled .h rich).full .h ∧ rich.profiles.source = .requests ∧ (3 : Profile) ≠ rich.profiles.target ∧
      ((switched rich 0).map (fun dv => dv.entries.any Entry.mark)) = some true ∧ rich.claimed 1 = true ∧
      (rich.device 1).map Device.profile = some 0) ∧
    ((ask .l (.selectProfile 3 true) rich).Takes .l (.selectProfile 3 true) 239 ∧ ¬ rich.full .l) ∧
    ((ask .l (.selectProfile 1 true) (hub0 .fenced)).Takes .l (.selectProfile 1 true) 239 ∧
      (hub0 .fenced).profiles.target = 0 ∧ (hub0 .fenced).claimed 0 = false ∧
      ((dev0 .fenced).entries.any Entry.mark) = false ∧
      (dev0 .fenced).entries.all (fun e => decide (e.desired 1 ≠ e.desired 0)) = true) := by decide

theorem test_witness_SetProfileSourceTakesTheLineLevel :
    (ask .h (.setProfileSource 2) hub).Takes .h (.setProfileSource 2) 239 ∧
    (ask .h (.setProfileSource 0) hub).Takes .h (.setProfileSource 0) 239 ∧
    ((ask .h (.setProfileSource 1) hub).Takes .h (.setProfileSource 1) 239 ∧ hub.profiles.lineLevel = hub.profiles.target) ∧
    ((ask .h (.setProfileSource 1) (run .lineChange (run (.pselChange 2) (hub0 .running)))).Takes .h (.setProfileSource 1) 239 ∧
      (run .lineChange (run (.pselChange 2) (hub0 .running))).profiles.source = .requests ∧
      (run .lineChange (run (.pselChange 2) (hub0 .running))).profiles.lineLevel ≠
        (run .lineChange (run (.pselChange 2) (hub0 .running))).profiles.target) := by decide


/-! ### Witnesses: saves, cold starts and the supply hold -/

/-- The hub while a save writes bank A with sequence 1. -/
def saving : State := run (.saveImage .h) (hub.modPort .h (fun q => { q with requests := [Request.saveImage.frame 7] }))

/-- The snapshot of device 0, RUNNING. -/
def snap : Snapshot := (hub0 .running).snapshot

/-- The hub with two banks. -/
def banked (a b : Bank) (s : State) : State := { s with bankA := a, bankB := b }

theorem test_witness_SavesTakeASnapshotAndEnd :
    ((ask .h .saveImage saving).Takes .h .saveImage 239 ∧ (ask .h .saveImage saving).save.phase = .writing) ∧
    ((ask .h .saveImage (banked (.valid 4294967295 snap) .invalid hub)).Takes .h .saveImage 239 ∧
      ∃ i n x, selectBank (Bank.valid 4294967295 snap) .invalid = some (i, n, x) ∧ n = 4294967295) ∧
    ((filled .h (ask .h .saveImage hub)).Takes .h .saveImage 239 ∧ (filled .h (ask .h .saveImage hub)).full .h ∧
      selectBank hub.bankA hub.bankB = none) ∧
    ((ask .h .saveImage (banked (.valid 4294967293 snap) (.valid 4294967294 snap) hub)).Takes .h .saveImage 239 ∧
      ¬ (ask .h .saveImage (banked (.valid 4294967293 snap) (.valid 4294967294 snap) hub)).full .h ∧
      selectBank (.valid 4294967293 snap) (.valid 4294967294 snap) = some (.b, 4294967294, snap)) ∧
    (saving.save.phase = .writing ∧ saving.save.record = some ⟨.a, 1, hub.snapshot⟩) :=
  ⟨by decide, ⟨by decide, .a, 4294967295, snap, rfl, rfl⟩, by decide, ⟨by decide, by decide, rfl⟩, by decide⟩

theorem test_witness_ColdStartsKeepTheBanksAlone :
    (State.reset.hubState ≠ .ready ∧ State.reset.inputs.supply = .aboveRun) ∧ hub.hubState ≠ .lowSupply ∧
    hub.inputs.supply ≠ .belowRetain ∧ (run .vddBelowRetainLevel hub).inputs.supply = .belowRetain ∧
    ((ask .h .restart hub).Takes .h .restart 239 ∧ hub.save.phase ≠ .writing) ∧
    ((ask .h .restart saving).Takes .h .restart 239 ∧ saving.save.phase = .writing) := by decide

theorem test_witness_StartStepsBuildTheImage :
    (State.reset.hubState = .start ∧ State.reset.inputs.rst = false ∧ State.reset.inputs.supply = .aboveRun ∧
      State.reset.bankA = .invalid ∧ State.reset.bankB = .invalid) ∧
    ((banked (.valid 1 snap) (.valid 2 hub.snapshot) State.reset).hubState = .start ∧
      (run (.startStepsComplete 3 1) (banked (.valid 1 snap) (.valid 2 hub.snapshot) State.reset)).origin = .bankB) ∧
    ((run (.startStepsComplete 0 0) (banked (.valid 2 snap) (.valid 1 hub.snapshot) State.reset)).device 0).map Device.state =
      some .loading := by decide

theorem test_witness_SupplyHoldCutsAndKeeps :
    ((hub0 .running).hubState = .ready ∧ (hub0 .running).idleLaw = true ∧ (hub0 .running).txn = none) ∧
    ((onLink .push 0x12 2 false rich).hubState = .ready ∧ (onLink .push 0x12 2 false rich).idleLaw = true ∧
      (onLink .push 0x12 2 false rich).txn.map (fun x => (x.kind, x.discard)) = some (.push, false)) ∧
    ((onLink .probe 0xF0 1 false (hub0 .running)).txn.map (fun x => (x.kind, x.discard)) = some (.probe, false) ∧
      (onLink .probe 0xF0 1 false (hub0 .running)).idleLaw = true) ∧
    ((onLink .push 0x12 2 true (hub0 .loading)).txn.map Txn.discard = some true ∧
      (onLink .push 0x12 2 true (hub0 .loading)).idleLaw = true) ∧
    ((onLink .marker 0xF0 2 false (hub0 .loading)).txn.map Txn.kind = some .marker ∧
      (onLink .marker 0xF0 2 false (hub0 .loading)).idleLaw = true) := by decide

theorem test_witness_ReturnToReadyRecoversEachDevice :
    (∀ st, (run .vddBelowRunLevel (hub0 st)).hubState = .lowSupply ∧
      (run .vddBelowRunLevel (hub0 st)).device 0 = some (dev0 st) ∧
      (run .vddBelowRunLevel (hub0 st)).device 1 = none ∧ (run .vddBelowRunLevel (hub0 st)).save.phase ≠ .aborted) ∧
    (dev0 .running).params.probeInterval ≠ 0 ∧
    ((run .vddBelowRunLevel
        (hub.setDevice 0 { dev .diverged [] with params := { ps with probeInterval := 0 } })).device 0).map
      (fun dv => (dv.state, dv.params.probeInterval)) = some (.diverged, 0) ∧
    ((run .vddBelowRunLevel saving).hubState = .lowSupply ∧ (run .vddBelowRunLevel saving).save.phase = .aborted ∧
      (run .vddBelowRunLevel saving).save.record.map SaveRecord.sequence = some 1) :=
  ⟨fun st => by cases st <;> decide, by decide, by decide, by decide⟩

/-! ### Witnesses: the device link -/

/-- Devices 2 and 3 with a probe due, device 0 without. -/
def twoDue : State :=
  ((hub0 .running).setDevice 2 { dev .suspect [] with probeDue := true }).setDevice 3
    { dev .running [] with probeDue := true }

theorem test_witness_ProbesAreGrantedFirst :
    (run (.holdChange true) twoDue).inputs.hold = true ∧ (onLink .probe 0xF0 1 false twoDue).txn.isSome = true ∧
    State.reset.hubState ≠ .ready ∧
    (twoDue.txn = none ∧ twoDue.hubState = .ready ∧ twoDue.inputs.hold = false ∧
      twoDue.device 2 = some { dev .suspect [] with probeDue := true } ∧
      ∀ e : DevNum, e < 2 → ∀ ev ∈ twoDue.device e, ev.probeDue = false) := by decide

/-- Device 0 LOADING in phase MARKER. -/
def markerHub : State := hub.setDevice 0 { dev .loading [ent 0x10 .applied] with phase := .marker }

theorem test_witness_WalkerGrantsPushOrMarkerByRotation :
    (hub0 .running).pushWork 0 = true ∧ (hub0 .running).walkerChoice = some 0 ∧ hub.walkerChoice = none ∧
    (hub0 .running).rotationGrant = some .pushWalker ∧
    ({ hub0 .running with rotation := .manualH } : State).rotationGrant = some .pushWalker ∧
    (markerHub.rotationGrant = some .pushWalker ∧ markerHub.walkerChoice = some 0 ∧
      markerHub.device 0 = some { dev .loading [ent 0x10 .applied] with phase := .marker }) ∧
    ((hub0 .running).hasWork .manualL = false ∧
      ({ hub0 .running with rotation := .manualL } : State).rotationGrant = some .pushWalker ∧
      (hub0 .running).device 0 = some (dev0 .running) ∧ ascending ((dev0 .running).entries.map Entry.register) = true) := by
  decide

/-- A READ_DEVICE and a RAW_WRITE wait in a port's manual queue; device 0 has no push work. -/
def reading (p : Port) : State := run (.readDevice p) (ask p (.readDevice 0 0x20) (hub0 .dormant))
def writing (p : Port) : State := run (.rawWrite p) (ask p (.rawWrite 0 0x20 5) (hub0 .dormant))

theorem test_witness_ManualTransfersRunAndAreAnswered :
    (∀ p, (p = .h → (reading p).rotationGrant = some .manualH) ∧ (p = .l → (reading p).rotationGrant = some .manualL) ∧
      ((reading p).port p).manual = [⟨.readDevice, 239, 0, 0x20⟩] ∧ (reading p).device 0 = some (dev0 .dormant)) ∧
    ((writing .l).rotationGrant = some .manualL ∧ ((writing .l).port .l).manual = [⟨.rawWrite 5, 239, 0, 0x20⟩]) ∧
    ((run .manualRead (reading .l)).txn.map (fun t => (t.kind, t.requester, t.readsMade)) =
        some (.manualRead, .manual .l, 0) ∧
      (run .manualRead (reading .l)).link.isSome = true ∧
      ((run .manualRead (reading .l)).port .l).manual = [⟨.readDevice, 239, 0, 0x20⟩]) ∧
    (readResult (BitVec.allOnes 17) = none ∧ 0 + 1 < ps.retryLimit + 1 ∧ ps.retryLimit + 1 ≤ 1 + 1 ∧
      (run .followOnFrameStart (run (.manualReadFrameEnd (BitVec.allOnes 17)) (run .manualRead (reading .l)))).txn.map
        (fun t => (t.frame, t.readsMade)) = some (2, 1)) ∧
    ((run .manualWrite (writing .h)).txn.map (fun t => (t.kind, t.requester)) = some (.manualWrite, .manual .h) ∧
      (run .manualWrite (writing .h)).link.isSome = true) :=
  ⟨fun p => by cases p <;> decide, by decide, by decide, by decide, by decide⟩

/-- The kind, the frame, the discard mark and the policy of the transaction, and whether a frame is on the link. -/
def onWire (s : State) : Option (TxnKind × Nat × Bool × VerifyPolicy × Bool) :=
  s.txn.map (fun t => (t.kind, t.frame, t.discard, t.params.verifyPolicy, s.link.isSome))

/-- The transaction under policy NONE. -/
def lax (s : State) : State :=
  { s with txn := s.txn.map (fun t => { t with params := { t.params with verifyPolicy := .none } }) }

theorem test_witness_TransactionsRunTheirFramesAndDiscard :
    (onWire (run .pushWriteFrameEnd (onLink .push 0x12 1 false (hub0 .running))) = some (.push, 1, false, .readback, false) ∧
      (hub0 .running).hubState = .ready) ∧
    onWire (onLink .marker 0xF0 1 false (hub0 .loading)) = some (.marker, 1, false, .readback, true) ∧
    (onWire (onLink .marker 0xF0 2 false (hub0 .loading)) = some (.marker, 2, false, .readback, true) ∧
      readResult (BitVec.allOnes 17) = none) ∧
    onWire (onLink .probe 0xF0 1 false (hub0 .running)) = some (.probe, 1, false, .readback, true) ∧
    (onWire (onLink .push 0x12 1 false (hub0 .running)) = some (.push, 1, false, .readback, true) ∧
      (hub0 .running).device 0 = some (dev0 .running)) ∧
    onWire (lax (onLink .push 0x12 1 true (hub0 .running))) = some (.push, 1, true, .none, true) ∧
    onWire (onLink .push 0x12 1 true (hub0 .running)) = some (.push, 1, true, .readback, true) ∧
    onWire (onLink .push 0x12 2 true (hub0 .running)) = some (.push, 2, true, .readback, true) ∧
    (onWire (onLink .marker 0xF0 3 true (hub0 .loading)) = some (.marker, 3, true, .readback, true) ∧
      readResult (sampleOf 0) ≠ none) ∧
    onWire (onLink .probe 0xF0 2 true (hub0 .running)) = some (.probe, 2, true, .readback, true) := by
  refine ⟨?_, ?_, ?_, ?_, ?_, ?_, ?_, ?_, ?_, ?_⟩ <;> decide

/-! ### Witnesses: judgements -/

/-- Device 0 RUNNING, its entry 0x10 IN_FLIGHT with the value v sent, after n failed attempts. -/
def flying (v : Value) (n : Nat) : State :=
  hub.setDevice 0 (dev .running [{ ent 0x10 (.inFlight .readback v) with attempts := n }])

theorem test_witness_PushesAreJudged :
    (∀ v n, (flying v n).device 0 = some (dev .running [{ ent 0x10 (.inFlight .readback v) with attempts := n }]) ∧
      findEntry 0x10 [{ ent 0x10 (.inFlight .readback v) with attempts := n }] =
        some { ent 0x10 (.inFlight .readback v) with attempts := n }) ∧
    onWire (lax (onLink .push 0x10 1 false (flying 0x0100 0))) = some (.push, 1, false, .none, true) ∧
    onWire (onLink .push 0x10 2 false (flying 0x0100 0)) = some (.push, 2, false, .readback, true) ∧
    ((ent 0x10 (.inFlight .readback 0x0100)).desired 0 = 0x0100 ∧ (ent 0x10 (.inFlight .readback 0x0100)).desired 0 ≠ 5) ∧
    (∃ r, readResult (sampleOf 0x0100) = some r ∧
      ∀ i, (0xFFFF : Value).getLsbD i = true → r.getLsbD i = (0x0100 : Value).getLsbD i) ∧
    (readResult (sampleOf 0x0101) = some 0x0101 ∧ (0xFFFF : Value).getLsbD 0 = true ∧
      (0x0101 : Value).getLsbD 0 ≠ (0x0100 : Value).getLsbD 0) ∧
    readResult (BitVec.allOnes 17) = none ∧
    (0 + 1 < (dev .running []).params.retryLimit + 1 ∧ ¬ (1 + 1 < (dev .running []).params.retryLimit + 1)) :=
  ⟨fun _ _ => ⟨rfl, rfl⟩, by decide, by decide, by decide, ⟨0x0100, by decide, fun _ _ => rfl⟩, by decide, by decide, by decide⟩

theorem test_witness_MatchingMarkerEndsTheLoadOrClearsTheCount :
    (∀ st, (hub0 st).device 0 = some (dev0 st)) ∧
    onWire (onLink .marker 0xF0 2 false (hub0 .loading)) = some (.marker, 2, false, .readback, true) ∧
    onWire (onLink .marker 0xF0 3 false (hub0 .loading)) = some (.marker, 3, false, .readback, true) ∧
    (∃ e ∈ (dev0 .loading).entries, e.isPending = true ∨ e.isInFlight = true) ∧
    (∀ e ∈ (dev .loading [ent 1 .applied, ent 2 .failed]).entries, e.isPending = false ∧ e.isInFlight = false) ∧
    (∃ e ∈ (dev .loading [ent 1 .applied, ent 2 .failed]).entries, e.state = .failed) ∧
    onWire (onLink .probe 0xF0 1 false (hub0 .running)) = some (.probe, 1, false, .readback, true) ∧
    onWire (onLink .probe 0xF0 2 false (hub0 .suspect)) = some (.probe, 2, false, .readback, true) := by
  refine ⟨fun st => rfl, ?_, ?_, ?_, ?_, ?_, ?_, ?_⟩ <;> decide

/-- The slots with nothing staged. -/
def unstaged (x : Entry) : Entry := { x with stagedBase := none, staged1 := none, staged2 := none, staged3 := none }

theorem test_witness_MismatchDeclaresALoss :
    (hub0 .loading).claim 0 = none ∧ readResult (sampleOf 0) ≠ some ps.marker ∧ readResult (sampleOf 0) ≠ none ∧
    readResult (BitVec.allOnes 17) ≠ some ps.marker ∧
    (onWire (onLink .marker 0xF0 2 false (hub0 .loading)) = some (.marker, 2, false, .readback, true) ∧
      onWire (onLink .marker 0xF0 3 false (hub0 .loading)) = some (.marker, 3, false, .readback, true) ∧
      onWire (onLink .probe 0xF0 1 false (hub0 .diverged)) = some (.probe, 1, false, .readback, true) ∧
      onWire (onLink .probe 0xF0 2 false (hub0 .suspect)) = some (.probe, 2, false, .readback, true)) ∧
    (dev0 .loading).losses + 1 ≠ (dev0 .loading).params.fenceLimit ∧
    ({ dev0 .suspect with losses := 1 } : Device).losses + 1 = (dev0 .suspect).params.fenceLimit ∧
    ((held .l (onLink .probe 0xF0 1 false (hub0 .running))).claim 0 = some ⟨.l, 3, 0⟩ ∧
      ((State.claimEnded (held .l (onLink .probe 0xF0 1 false (hub0 .running))) 0 (dev0 .running) unstaged).device 0).map
        Device.state = some .running) := by
  refine ⟨?_, ?_, ?_, ?_, ⟨?_, ?_, ?_, ?_⟩, ?_, ?_, ?_, ?_⟩ <;> decide

/-- R83, R105: a loss on a claimed device breaks the claim: the holder's late mark, its notices, and the reload. -/
theorem test_claim_broken :
    (run (.probeReadEnd (sampleOf 0)) (held .l (onLink .probe 0xF0 1 false (hub0 .running)))).claim 0 = none ∧
    (run (.probeReadEnd (sampleOf 0)) (held .l (onLink .probe 0xF0 1 false (hub0 .running)))).lateMark 0 .l = .broken ∧
    ((run (.probeReadEnd (sampleOf 0)) (held .l (onLink .probe 0xF0 1 false (hub0 .running)))).port .l).notices =
      [.deviceLost 0, .claimBroken 0] ∧
    ((run (.probeReadEnd (sampleOf 0)) (held .l (onLink .probe 0xF0 1 false (hub0 .running)))).port .h).notices =
      [.deviceLost 0] := by decide

/-! ### Witnesses: loads, timers and lines -/

theorem test_witness_LoadsBeginWithEveryEntryPending :
    (dev0 .dormant).state = .dormant ∧ (dev0 .loading).state = .loading ∧
    ({ dev0 .suspect with probeDue := true } : Device).probeDue = true ∧ (dev0 .running).probeDue = false := by decide

theorem test_witness_ProbeTimersRunOut :
    (∀ st, (hub0 st).device 0 = some (dev0 st) ∧ (hub0 st).hubState = .ready ∧ (dev0 st).params.probeInterval ≠ 0 ∧
      (dev0 st).probeDue = false) ∧
    ((run .vddBelowRunLevel (hub0 .running)).device 0 = some (dev0 .running) ∧
      (run .vddBelowRunLevel (hub0 .running)).hubState ≠ .ready) ∧
    (twoDue.device 2).map Device.probeDue = some true := by
  refine ⟨fun st => ⟨rfl, rfl, by show (10 : Nat) ≠ 0; decide, rfl⟩, ?_, ?_⟩ <;> decide

theorem test_witness_ExpiredClaimsEnd :
    (∀ x, unstaged x = { x with stagedBase := none, staged1 := none, staged2 := none, staged3 := none }) ∧
    ((held .h (hub0 .running)).hubState = .ready ∧ (held .h (hub0 .running)).device 0 = some (dev0 .running) ∧
      (held .h (hub0 .running)).claim 0 = some ⟨.h, 3, 0⟩ ∧ (held .h (hub0 .running)).deferred 0 = false) ∧
    (rich.hubState = .ready ∧ rich.device 1 = some (dev .running [{ ent 0x10 .applied with stagedBase := some 5 }]) ∧
      rich.claim 1 = some ⟨.l, 3, 0⟩ ∧ rich.deferred 1 = true) := by
  refine ⟨fun x => rfl, ?_, ?_⟩ <;> decide

theorem test_witness_LinesAreDebouncedIntoSwitches :
    hub.inputs.psel = 0 ∧ State.reset.hubState ≠ .ready ∧ hub.hubState = .ready ∧ hub.profiles.candidate = none ∧
    (run (.pselChange 2) hub).profiles.candidate = some 2 ∧ (run (.pselChange 2) hub).profiles.source = .requests ∧
    ((run (.pselChange 3) (sourced .lines (hub0 .running))).profiles.candidate = some 3 ∧
      (run (.pselChange 3) (sourced .lines (hub0 .running))).profiles.source = .lines ∧
      (3 : Profile) ≠ (run (.pselChange 3) (sourced .lines (hub0 .running))).profiles.target) := by decide

/-! ### Witnesses: the ports -/

/-- Port H in a phase with a buffer, n frames in its queue. -/
def onBus (ph : BusPhase) (b : Buffer) (n : Nat) : State :=
  { hub.modPort .h (fun q => { q with requests := List.replicate n f1 }) with portH := { hub.portH with phase := ph, buffer := b } }

theorem test_witness_BusConditionsEndTransactions :
    (0 < 8 ∧ 7 < 8) ∧ (∀ ph b n, (onBus ph b n).portH.phase = ph ∧ (onBus ph b n).portH.buffer = b) ∧
    (onBus .write (.complete f2) 4).portH.buffer.isComplete = true ∧
    ((onBus .write (.assembling [1] false) 3).port .h).requests.length < 4 ∧
    4 ≤ ((onBus .skip (.assembling [1] true) 4).port .h).requests.length := by
  refine ⟨by decide, fun _ _ _ => ⟨rfl, rfl⟩, ?_, ?_, ?_⟩ <;> decide

theorem test_witness_PortHReceivesBytes :
    (onBus .idle .empty 0).portH.phase ≠ .address ∧ (onBus .address .empty 0).portH.phase = .address ∧
    (0xBA : Byte).toNat / 2 ≠ (onBus .address .empty 0).portH.address.toNat ∧
    (0xB9 : Byte).toNat = 2 * (onBus .address .empty 0).portH.address.toNat + 1 ∧
    ((0xB8 : Byte).toNat = 2 * (onBus .address (.complete f1) 0).portH.address.toNat ∧
      (onBus .address (.complete f1) 0).portH.buffer.isComplete = true ∧
      (onBus .address .empty 0).portH.buffer.isComplete = false) ∧
    ((onBus .write (.assembling (List.replicate 15 0) false) 0).portH.buffer =
        .assembling (List.replicate 15 0) false ∧ (List.replicate 15 (0 : Byte)).length < 16) ∧
    16 ≤ (List.replicate 16 (0 : Byte)).length ∧ (onBus .skip (.assembling [] true) 0).portH.phase = .skip := by decide

/-- Port H in a read transaction, the head response OK without payload. -/
def sendingAt (n : Nat) : State :=
  { hub.respond .h 5 .ok .none with portH := { hub.portH with phase := .read, cursor := .sending n } }

theorem test_witness_PortHSendsTheHeadResponse :
    (∀ n, (sendingAt n).portH.phase = .read ∧ (sendingAt n).portH.stopped = false ∧ (sendingAt n).portH.cursor = .sending n ∧
      ((sendingAt n).port .h).responses = [⟨5, .ok, .none⟩]) ∧
    (1 + 1 < (Response.mk 5 .ok .none).bytes.length ∧ 2 + 1 = (Response.mk 5 .ok .none).bytes.length) ∧
    ({ hub.portH with phase := .read, cursor := .fill } : PortH).cursor = .fill ∧
    ((run (.responseByteAck false) (sendingAt 1)).portH.phase = .read ∧
      (run (.responseByteAck false) (sendingAt 1)).portH.stopped = true) :=
  ⟨fun _ => ⟨rfl, rfl, rfl, rfl⟩, by decide, by decide, by decide⟩

/-- Port L in a framing state with a latch and a buffer, n frames in its queue and a level of LFRM#. -/
def framed (fr : Framing) (latch : Option Byte) (b : Buffer) (n : Nat) (lfrm : Bool) : State :=
  { hub.modPort .l (fun q => { q with requests := List.replicate n f1 }) with
    portL := { hub.portL with framing := fr, latch := latch, buffer := b }
    inputs := { hub.inputs with lfrm := lfrm } }

theorem test_witness_PortLOpensFramesAndLatchesBytes :
    (∀ fr latch b n lfrm, (framed fr latch b n lfrm).portL.framing = fr ∧ (framed fr latch b n lfrm).portL.latch = latch ∧
      (framed fr latch b n lfrm).portL.buffer = b) ∧
    (framed .idle none (.complete f2) 4 false).portL.buffer.isComplete = true ∧
    Framing.unsynced ∈ [Framing.inactive, .unsynced, .idle, .discard, .heldBroken] :=
  ⟨fun _ _ _ _ _ => ⟨rfl, rfl, rfl⟩, by decide, by decide⟩

theorem test_witness_PortLTakesBytesAndEndsFrames :
    (∀ fr latch b n lfrm, (framed fr latch b n lfrm).hubState = .ready ∧ (framed fr latch b n lfrm).inputs.lfrm = lfrm) ∧
    ((framed .ending (some 1) (.assembling [1] false) 3 true).port .l).requests.length < 4 ∧
    4 ≤ ((framed .ending (some 1) (.assembling [1] false) 4 false).port .l).requests.length ∧
    (List.replicate 15 (0 : Byte)).length < 16 ∧ 16 ≤ (List.replicate 16 (0 : Byte)).length ∧
    (run .inboundByteTake (framed .ending (some 1) (.assembling [1] false) 3 true)).portL.framing = .opened ∧
    (run .inboundByteTake (framed .ending (some 1) (.assembling [1] false) 4 true)).portL.framing = .held := by
  refine ⟨fun _ _ _ _ _ => ⟨rfl, rfl⟩, ?_, ?_, ?_, ?_, ?_, ?_⟩ <;> decide

/-- A response OK without payload at the head of Port L's queue, its byte k on the latch or to be loaded. -/
def mailing (full : Bool) (k : Option Nat) : State :=
  { hub.respond .l 5 .ok .none with portL := { hub.portL with outFull := full, cursor := k } }

theorem test_witness_PortLSendsTheHeadResponse :
    (∀ full k, (mailing full k).hubState = .ready ∧ (mailing full k).portL.outFull = full ∧
      (mailing full k).portL.cursor = k ∧ ((mailing full k).port .l).responses = [⟨5, .ok, .none⟩]) ∧
    ((Response.mk 5 .ok .none).bytes[(none : Option Nat).getD 0]? = some 2 ∧
      (Response.mk 5 .ok .none).bytes[(some 2 : Option Nat).getD 0]? = some 0) ∧
    (1 + 1 < (Response.mk 5 .ok .none).bytes.length ∧ 2 + 1 = (Response.mk 5 .ok .none).bytes.length) ∧
    (hub.port .l).responses = [] :=
  ⟨fun _ _ => ⟨rfl, rfl, rfl, rfl⟩, by decide, by decide, by decide⟩

theorem test_witness_ResponsesHaveTheirLength :
    (sixteen.take 8).length ≤ 8 ∧
    (Response.mk 1 .ok (.notices (sixteen.take 8) true false)).payload = .notices (sixteen.take 8) true false ∧
    (Response.mk 1 .ok (.notices (sixteen.take 8) true false)).bytes.length = 36 := by decide

theorem test_witness_LinkFramesCarryEvenParity :
    hub.link = none ∧ (onLink .push 0x12 1 false hub).link.map LinkFrame.op = some .write ∧
    (run .probeGrant twoDue).link.map LinkFrame.op = some .read ∧ 26 < 27 ∧ 10 ≤ 26 := by decide

end Sys2Proof.Tests
end

/-! SUPPORT. The take of a request's own frame, the device operand, entry lists in ascending order, and the record pool:
the rules that the proofs about requests share. -/

namespace Sys2Proof.Machine

/-! ### The frame of a request (R189, R190) -/

@[simp] theorem ReqKind.ofCode_code (k : ReqKind) : ReqKind.ofCode k.code = some k := by
  cases k <;> decide

@[simp] theorem Request.ofOperands_operands (r : Request) : Request.ofOperands r.kind r.operands = some r := by
  cases r with
  | readStatus _ | readNotices | removeDevice _ | removeEntry _ _ | deactivate _ | readDevice _ _ | claim _ _ | abandon _
  | setProfileSource _ | saveImage | restart => rfl
  | setNoticeMask m => exact congrArg (Option.map _) (maskOfBytes_setWidth m)
  | setAttention a b => exact congrArg (Option.map _) (flag2_flagByte2 a b)
  | defineDevice d c m sp vp rl pi fl =>
    exact congrArg (fun v => some (Request.defineDevice d c v sp vp rl pi fl)) (ofBytes_hiByte_loByte m)
  | addEntry d r o b m =>
    exact congrArg₂ (fun v w => some (Request.addEntry d r o v w)) (ofBytes_hiByte_loByte b) (ofBytes_hiByte_loByte m)
  | setEntryAttr d r o m => exact congrArg (fun v => some (Request.setEntryAttr d r o v)) (ofBytes_hiByte_loByte m)
  | rawWrite d r v => exact congrArg (fun v => some (Request.rawWrite d r v)) (ofBytes_hiByte_loByte v)
  | write d r sl w c v =>
    exact congrArg₂ (fun f v => Option.map (fun x => Request.write d r sl x.1 x.2 v) f) (flag2_flagByte2 w c)
      (ofBytes_hiByte_loByte v)
  | readEntry _ _ a | activate _ a | resync _ a | resetDevice _ a | commit _ a | selectProfile _ a =>
    exact congrArg (Option.map _) (flag1_flagByte1 a)

theorem Request.request_frame (r : Request) {tag : Byte} (h : tag.toNat < 240) : (r.frame tag).request = some r := by
  simp [Request.frame, Frame.request, h]

@[simp] theorem Request.tag_frame (r : Request) (tag : Byte) : (r.frame tag).tag = tag := rfl

theorem Request.names_frame (r : Request) {tag : Byte} (h : tag.toNat < 240) : (r.frame tag).names r.kind = true := by
  have hreadable : (r.frame tag).tagReadable = true := bne_iff_ne.mpr fun h255 : tag = 255 => by
    simp [h255] at h
  have hkind : (r.frame tag).kind = some r.kind := ReqKind.ofCode_code r.kind
  simp only [Frame.names, hreadable, hkind, decide_true, Bool.and_true]
  rfl

/-! ### The take of a request (R127, R128) -/

/-- A take that passes steps 1 to 4 of R128 runs the request's own rule on the state after the take. -/
theorem State.takeRequest_of_takes {s : State} {p : Port} {r : Request} {tag : Byte} (h : s.Takes p r tag)
    (act : Byte → Request → State → State) : s.takeRequest p r.kind act = act tag r (s.dequeue p) := by
  obtain ⟨hnext, hhead, htag, hfree, hport⟩ := h
  exact State.takeRequest_of_request hnext hhead (r.names_frame htag) (r.request_frame htag) hfree hport

/-! ### The device operand (R1) -/

theorem State.names_dequeue {s : State} {b : Byte} {d : DevNum} {dv : Device} (h : s.Names b d dv) (p : Port) :
    (s.dequeue p).Names b d dv :=
  ⟨h.1, (State.device_dequeue s p d).trans h.2⟩

theorem devNum?_eq_none {b : Byte} (h : ¬ b.toNat ≤ 5) : devNum? b.toNat = none :=
  dif_neg fun hlt => h (Nat.le_of_lt_succ hlt)

/-! ### Entry lists in ascending order (R5, R6) -/

theorem ascending_iff_pairwise (rs : List Register) :
    ascending rs = true ↔ rs.Pairwise fun a b => a.toNat < b.toNat := by
  have : Trans (fun a b : Register => a.toNat < b.toNat) (fun a b : Register => a.toNat < b.toNat)
    (fun a b : Register => a.toNat < b.toNat) := ⟨Nat.lt_trans⟩
  rw [← List.isChain_iff_pairwise]
  induction rs using ascending.induct with
  | case1 => simp [ascending]
  | case2 a => simp [ascending]
  | case3 a b rest ih => simp [ascending, ih]

/-- In an ascending list a search ends at the lowest register that it admits. -/
theorem find?_eq_some_of_lowest {es : List Entry} {e : Entry} {f : Entry → Bool}
    (hasc : ascending (es.map Entry.register) = true) (he : e ∈ es) (hf : f e = true)
    (hlow : ∀ x ∈ es, f x = true → e.register.toNat ≤ x.register.toNat) : es.find? f = some e := by
  rw [ascending_iff_pairwise, List.pairwise_map] at hasc
  induction es with
  | nil => cases he
  | cons y ys ih =>
    obtain ⟨hy, hys⟩ := List.pairwise_cons.mp hasc
    rcases List.mem_cons.mp he with rfl | hmem
    · exact List.find?_cons_of_pos hf
    · have hskip : ¬ f y = true := fun h => by
        have := hlow y List.mem_cons_self h
        have := hy e hmem
        omega
      rw [List.find?_cons_of_neg hskip]
      exact ih hys hmem fun x hx => hlow x (List.mem_cons_of_mem y hx)

/-- Exact lookup finds the one entry of the register. -/
theorem findEntry_eq_some {es : List Entry} {e : Entry} (hasc : ascending (es.map Entry.register) = true) (he : e ∈ es) :
    findEntry e.register es = some e :=
  find?_eq_some_of_lowest hasc he (by simp) fun x _ hx => by simp [eq_of_beq hx]

/-- Onward lookup finds the entry with the lowest register at or above the one given. -/
theorem findOnward_eq_some {r : Register} {es : List Entry} {e : Entry}
    (hasc : ascending (es.map Entry.register) = true) (he : e ∈ es) (hr : r.toNat ≤ e.register.toNat)
    (hlow : ∀ x ∈ es, r.toNat ≤ x.register.toNat → e.register.toNat ≤ x.register.toNat) : findOnward r es = some e :=
  find?_eq_some_of_lowest hasc he (decide_eq_true hr) fun x hx h => hlow x hx (of_decide_eq_true h)

theorem findOnward_eq_none {r : Register} {es : List Entry} (h : ∀ e ∈ es, e.register.toNat < r.toNat) :
    findOnward r es = none := by
  simpa [findOnward] using h

/-! ### The record pool (R4) -/

/-- Two counts that differ at one device alone have sums that differ by that device's counts. -/
theorem sumDevices_add_of_eq_off {f g : DevNum → Nat} (d : DevNum) (h : ∀ e, e ≠ d → f e = g e) :
    sumDevices f + g d = sumDevices g + f d := by
  have hsum : ∀ k : DevNum → Nat, sumDevices k = k d + ∑ e ∈ Finset.univ.erase d, k e := fun k =>
    (Fin.sum_univ_six k).symm.trans (Finset.add_sum_erase _ k (Finset.mem_univ d)).symm
  have hoff : ∑ e ∈ Finset.univ.erase d, f e = ∑ e ∈ Finset.univ.erase d, g e :=
    Finset.sum_congr rfl fun e he => h e (Finset.ne_of_mem_erase he)
  rw [hsum f, hsum g, hoff]
  omega

theorem State.poolInUse_eq (s : State) :
    s.poolInUse = sumDevices fun d => (s.device d).elim 0 fun dv => dv.entries.length := by
  refine congrArg sumDevices (funext fun d => ?_)
  cases s.device d <;> rfl

/-- A record that becomes ABSENT returns its entries to the pool. -/
theorem State.poolInUse_add_of_absent {s t : State} {d : DevNum} {dv : Device} (hd : s.device d = some dv)
    (ht : t.devices = s.devices.set d none) : t.poolInUse + dv.entries.length = s.poolInUse := by
  have hdev : ∀ e, t.device e = if e = d then none else s.device e := fun e => by
    rw [State.device, ht, PerDevice.get_set]
    rfl
  have hsum := sumDevices_add_of_eq_off (f := fun e => (t.device e).elim 0 fun x => x.entries.length)
    (g := fun e => (s.device e).elim 0 fun x => x.entries.length) d fun e he => by simp [hdev, he]
  simpa [State.poolInUse_eq, hdev, hd] using hsum

end Sys2Proof.Machine

/-! The configuration image: DEFINE_DEVICE, REMOVE_DEVICE and READ_ENTRY. -/

namespace Sys2Proof.Machine

/-! ### DEFINE_DEVICE (R15) -/

theorem verifyPolicyOf_of_le {vp : Byte} (h : vp.toNat ≤ 1) :
    verifyPolicyOf vp = some (if vp = 0 then .none else .readback) := by
  by_cases h0 : vp = 0
  · simp [verifyPolicyOf, h0]
  · have h1 : vp = 1 := by bv_omega
    simp [verifyPolicyOf, h1]

theorem verifyPolicyOf_eq_none {vp : Byte} (h : ¬ vp.toNat ≤ 1) : verifyPolicyOf vp = none := by
  have h0 : vp ≠ 0 := by bv_omega
  have h1 : vp ≠ 1 := by bv_omega
  rw [verifyPolicyOf, if_neg h0, if_neg h1]

section
variable {c sp vp rl pi fl : Byte} {m : Value}

theorem paramsOf_of_inRange (hsp : sp.toNat ≤ 3) (hvp : vp.toNat ≤ 1) (hrl : rl.toNat ≤ 7) (hpi : pi.toNat ≤ 250)
    (hfl : 1 ≤ fl.toNat) (hfl' : fl.toNat ≤ 7) :
    paramsOf c m sp vp rl pi fl = some
      { checkRegister := c, marker := m, speedClass := sp.toNat, verifyPolicy := if vp = 0 then .none else .readback
        retryLimit := rl.toNat, probeInterval := pi.toNat, fenceLimit := fl.toNat } := by
  simp [paramsOf, verifyPolicyOf_of_le hvp, hsp, hrl, hpi, hfl, hfl']

theorem paramsOf_eq_none (h : ¬ (sp.toNat ≤ 3 ∧ vp.toNat ≤ 1 ∧ rl.toNat ≤ 7 ∧ pi.toNat ≤ 250 ∧ 1 ≤ fl.toNat ∧ fl.toNat ≤ 7)) :
    paramsOf c m sp vp rl pi fl = none := by
  by_cases hvp : vp.toNat ≤ 1
  · simp only [paramsOf, verifyPolicyOf_of_le hvp]
    exact if_neg fun ⟨hsp, hrest⟩ => h ⟨hsp, hvp, hrest⟩
  · simp only [paramsOf, verifyPolicyOf_eq_none hvp]

end

section
variable {s : State} {p : Port} {tag b : Byte}

theorem reqDefineDevice_of_badRequest {ps : Option Params} (h : devNum? b.toNat = none ∨ ps = none) :
    reqDefineDevice p tag b ps s = s.respond p tag .badRequest .none := by
  unfold reqDefineDevice
  rcases h with hb | rfl
  · simp only [hb]
  · cases devNum? b.toNat <;> rfl

theorem reqDefineDevice_of_duplicate {ps : Params} {d : DevNum} (hb : b.toNat = d.val) (hd : (s.device d).isSome = true) :
    reqDefineDevice p tag b (some ps) s = s.respond p tag .duplicate .none := by
  obtain ⟨dv, hdv⟩ := Option.isSome_iff_exists.mp hd
  simp only [reqDefineDevice, devNum?_of_eq hb, hdv]

theorem reqDefineDevice_of_absent {ps : Params} {d : DevNum} (hb : b.toNat = d.val) (hd : s.device d = none) :
    reqDefineDevice p tag b (some ps) s =
      ((s.setDevice d (Device.defined ps s.profiles.target)).clearLate d).respond p tag .ok .none := by
  simp only [reqDefineDevice, devNum?_of_eq hb, hd]

/-! ### REMOVE_DEVICE (R20) -/

theorem State.manualOnLink_iff {d : DevNum} :
    s.manualOnLink d = true ↔ ∃ t, s.txn = some t ∧ t.device = d ∧ (t.kind = .manualRead ∨ t.kind = .manualWrite) := by
  unfold State.manualOnLink
  cases s.txn with
  | none => simp
  | some t => simp [and_comm]

theorem State.transferFor_iff {d : DevNum} :
    s.transferFor d = true ↔ (∃ q, ∃ x ∈ (s.port q).manual, x.device = d) ∨
      ∃ t, s.txn = some t ∧ t.device = d ∧ (t.kind = .manualRead ∨ t.kind = .manualWrite) := by
  have hports : (∃ q, ∃ x ∈ (s.port q).manual, x.device = d) ↔
      (∃ x ∈ (s.port .h).manual, x.device = d) ∨ ∃ x ∈ (s.port .l).manual, x.device = d :=
    ⟨fun ⟨q, hq⟩ => match q with
      | .h => .inl hq
      | .l => .inr hq, fun h => h.elim (⟨.h, ·⟩) (⟨.l, ·⟩)⟩
  simp only [State.transferFor, Bool.or_eq_true, List.any_eq_true, decide_eq_true_eq, State.manualOnLink_iff, hports]

@[simp] theorem State.transferFor_dequeue (s : State) (p : Port) (d : DevNum) :
    (s.dequeue p).transferFor d = s.transferFor d := by
  simp [State.transferFor, State.manualOnLink]

variable {d : DevNum} {dv : Device}

theorem reqRemoveDevice_of_wrongState (hn : s.Names b d dv) (hc : s.claim d = none) (hst : dv.state ≠ .dormant) :
    reqRemoveDevice p tag b s = s.respond p tag .wrongState .none := by
  simp [reqRemoveDevice, State.findDevice_of_names hn, State.claimed, hc, hst]

theorem reqRemoveDevice_of_busy (hn : s.Names b d dv) (hc : s.claim d = none) (hst : dv.state = .dormant)
    (hx : s.transferFor d = true) : reqRemoveDevice p tag b s = s.respond p tag .busy .none := by
  simp [reqRemoveDevice, State.findDevice_of_names hn, State.claimed, hc, hst, hx]

theorem reqRemoveDevice_of_free (hn : s.Names b d dv) (hc : s.claim d = none) (hst : dv.state = .dormant)
    (hx : s.transferFor d = false) :
    reqRemoveDevice p tag b s = ((s.removeDevice d).clearLate d).respond p tag .ok .none := by
  simp [reqRemoveDevice, State.findDevice_of_names hn, State.claimed, hc, hst, hx]

/-! ### READ_ENTRY (R21, R22) -/

theorem reqReadEntry_of_none {r : Register} {onward : Bool} (hn : s.Names b d dv)
    (h : (if onward = true then findOnward r dv.entries else findEntry r dv.entries) = none) :
    reqReadEntry p tag b r onward s = s.respond p tag .notFound .none := by
  simp only [reqReadEntry, State.findDevice_of_names hn, h]

theorem reqReadEntry_of_some {r : Register} {onward : Bool} {e : Entry} (hn : s.Names b d dv)
    (h : (if onward = true then findOnward r dv.entries else findEntry r dv.entries) = some e) :
    reqReadEntry p tag b r onward s = s.respond p tag .ok (.entry (e.view dv.profile)) := by
  simp only [reqReadEntry, State.findDevice_of_names hn, h]

/-! ### The commands -/

theorem exec_defineDevice_of_takes {c sp vp rl pi fl : Byte} {m : Value}
    (h : s.Takes p (.defineDevice b c m sp vp rl pi fl) tag) :
    exec (.defineDevice p) s = .next (reqDefineDevice p tag b (paramsOf c m sp vp rl pi fl) (s.dequeue p)) :=
  congrArg Host.Outcome.next (State.takeRequest_of_takes h _)

theorem exec_removeDevice_of_takes (h : s.Takes p (.removeDevice b) tag) :
    exec (.removeDevice p) s = .next (reqRemoveDevice p tag b (s.dequeue p)) :=
  congrArg Host.Outcome.next (State.takeRequest_of_takes h _)

theorem exec_readEntry_of_takes {r : Register} {onward : Bool} (h : s.Takes p (.readEntry b r onward) tag) :
    exec (.readEntry p) s = .next (reqReadEntry p tag b r onward (s.dequeue p)) :=
  congrArg Host.Outcome.next (State.takeRequest_of_takes h _)

end

/-! ### The statements -/

/-- Settles O24: each lookup finds the entry that the statement names, and none where it names none. -/
theorem readEntryReturnsTheView : Obligations.ReadEntryReturnsTheView := by
  intro s p tag b r onward d dv ht hn hasc
  have hn' := State.names_dequeue hn p
  rw [exec_readEntry_of_takes ht]
  refine ⟨fun habsent => ?_, fun e he hfound => ?_⟩
  · have hlookup : (if onward = true then findOnward r dv.entries else findEntry r dv.entries) = none := by
      cases onward with
      | true => exact findOnward_eq_none habsent
      | false => exact findEntry_eq_none habsent
    rw [reqReadEntry_of_none hn' hlookup, State.respond_eq]
  · have hlookup : (if onward = true then findOnward r dv.entries else findEntry r dv.entries) = some e := by
      cases onward with
      | true => exact findOnward_eq_some hasc he hfound.1 hfound.2
      | false => exact hfound ▸ findEntry_eq_some hasc he
    rw [reqReadEntry_of_some hn' hlookup]
    rfl

/-- Settles O20: DEFINE_DEVICE by the range of its operands and the record of the device, REMOVE_DEVICE by the state of the
device and the manual transfers for it. -/
theorem deviceRecordsAreDefinedAndRemoved : Obligations.DeviceRecordsAreDefinedAndRemoved := by
  refine ⟨fun s p tag b c m sp vp rl pi fl ht => ?_, fun s p tag b d dv ht hn hc => ?_⟩
  · rw [exec_defineDevice_of_takes ht]
    refine ⟨fun hrange => ?_, fun hsp hvp hrl hpi hfl hfl' d hb => ?_⟩
    · rw [reqDefineDevice_of_badRequest, State.respond_eq]
      by_cases hb : b.toNat ≤ 5
      · exact .inr (paramsOf_eq_none fun hps => hrange ⟨hb, hps⟩)
      · exact .inl (devNum?_eq_none hb)
    · rw [paramsOf_of_inRange hsp hvp hrl hpi hfl hfl']
      refine ⟨fun hd => ?_, fun hd => ?_⟩
      · rw [reqDefineDevice_of_duplicate hb (by simpa using hd), State.respond_eq]
      · rw [reqDefineDevice_of_absent hb (by simpa using hd), State.respond_eq, State.dequeue_profiles,
          ← State.dequeue_devices s p, ← State.dequeue_late s p]
        rfl
  · rw [exec_removeDevice_of_takes ht]
    have hn' := State.names_dequeue hn p
    have hc' := (State.claim_dequeue s p d).trans hc
    refine ⟨fun hst => ?_, fun hst hqueued => ?_, fun hst hlink => ?_, fun hst hqueues hlink => ?_⟩
    · rw [reqRemoveDevice_of_wrongState hn' hc' hst, State.respond_eq]
    · have hbusy : s.transferFor d = true := State.transferFor_iff.mpr (.inl hqueued)
      rw [reqRemoveDevice_of_busy hn' hc' hst (by simpa using hbusy), State.respond_eq]
    · have hbusy : s.transferFor d = true := State.transferFor_iff.mpr (.inr hlink)
      rw [reqRemoveDevice_of_busy hn' hc' hst (by simpa using hbusy), State.respond_eq]
    · have hfree : s.transferFor d = false := by
        rw [Bool.eq_false_iff, ne_eq, State.transferFor_iff]
        rintro (⟨q, x, hx, hxd⟩ | ⟨t, htxn, htd, hkind⟩)
        · exact hqueues q x hx hxd
        · exact hkind.elim (hlink t htxn htd).1 (hlink t htxn htd).2
      rw [reqRemoveDevice_of_free hn' hc' hst (by simpa using hfree), State.respond_eq]
      refine ⟨_, rfl, ?_, State.poolInUse_add_of_absent hn.2 ?_⟩
      · rw [← State.dequeue_devices s p, ← State.dequeue_late s p]
        rfl
      · exact congrArg (PerDevice.set · d none) (State.dequeue_devices s p)

end Sys2Proof.Machine

/-! Keeping devices in step: WRITE, refused, staged or committed (R12, R41 to R43). -/

namespace Sys2Proof.Machine

/-! ### Slots and contents (R8, R11) -/

/-- The content that a WRITE gives its slot: CLEAR under the clear flag, else the value (R8, R41). -/
def SlotContent.ofWrite (clear : Bool) (v : Value) : SlotContent := if clear then .clear else .value v

theorem Owner.admits_eq_false {o : Owner} {p : Port} : o.admits p = false ↔ o = .h ∧ p = .l ∨ o = .l ∧ p = .h := by
  cases o <;> cases p <;> simp [Owner.admits]

theorem slotOf_ofNat (slot : Fin 4) : slotOf (BitVec.ofNat 8 slot.val) = some slot := by
  revert slot
  decide

theorem slotOf_eq_none {b : Byte} (h : 4 ≤ b.toNat) : slotOf b = none := dif_neg (Nat.not_lt.mpr h)

theorem exists_slot_of_lt {b : Byte} (h : b.toNat < 4) : ∃ slot : Fin 4, b = BitVec.ofNat 8 slot.val :=
  ⟨⟨b.toNat, h⟩, by simp⟩

theorem ofNat_slot_eq_zero {slot : Fin 4} : BitVec.ofNat 8 slot.val = 0 ↔ slot = 0 := by
  revert slot
  decide

/-- A staged write fills the slot it names and leaves the other staged slots (R42); slot 0 takes no CLEAR (R41). -/
theorem Entry.stageSlot_ofWrite {slot : Fin 4} {clear : Bool} (h : ¬ (clear = true ∧ slot = 0)) (v : Value) (x : Entry) :
    x.stageSlot slot (.ofWrite clear v) =
      { x with
        stagedBase := if BitVec.ofNat 8 slot.val = 0 then some v else x.stagedBase
        staged1 := if BitVec.ofNat 8 slot.val = 1 then some (if clear then .clear else .value v) else x.staged1
        staged2 := if BitVec.ofNat 8 slot.val = 2 then some (if clear then .clear else .value v) else x.staged2
        staged3 := if BitVec.ofNat 8 slot.val = 3 then some (if clear then .clear else .value v) else x.staged3 } := by
  match slot with
  | 0 =>
    have hclear : clear = false := by simpa using h
    subst hclear
    rfl
  | 1 | 2 | 3 => rfl

/-- A committed write stores its value in the slot it names, or makes the override absent (R8, R43). -/
theorem Entry.commitSlot_ofWrite {slot : Fin 4} {clear : Bool} (h : ¬ (clear = true ∧ slot = 0)) (v : Value) (x : Entry) :
    x.commitSlot slot (.ofWrite clear v) =
      { x with
        base := if slot = 0 then v else x.base
        override1 := if slot = 1 then (if clear then none else some v) else x.override1
        override2 := if slot = 2 then (if clear then none else some v) else x.override2
        override3 := if slot = 3 then (if clear then none else some v) else x.override3 } := by
  match slot with
  | 0 =>
    have hclear : clear = false := by simpa using h
    subst hclear
    rfl
  | 1 | 2 | 3 => cases clear <;> rfl

/-! ### Committed changes (R10, R26) -/

section
variable {f : Entry → Entry} {p p' : Profile} {st : DevState} {e : Entry}

theorem Entry.change_of_desired_eq (h : (f e).desired p' = e.desired p) : e.change f p p' st = f e := if_pos h

theorem Entry.desired_moved (e : Entry) (q : Profile) : e.moved.desired q = e.desired q := by
  cases h : e.state <;> simp [Entry.moved, h, Entry.desired]

/-- A committed change gives the desired values of its slots, whatever it does to the entry's state. -/
theorem Entry.desired_change (q : Profile) : (e.change f p p' st).desired q = (f e).desired q := by
  have hmark : ∀ x : Entry, ({ x with mark := true } : Entry).desired q = x.desired q := fun _ => rfl
  unfold Entry.change
  split
  · rfl
  · split
    · rw [hmark, Entry.desired_moved]
    · exact Entry.desired_moved _ q

end

/-! ### How a committed WRITE is answered (R43) -/

section
variable {st st' : DevState} {q : Profile} {f : Entry → Entry} {e e' : Entry}

theorem writeAnswer_of_noWait : writeAnswer false st q e e' = .inl (.ok, .none) := rfl

theorem writeAnswer_of_dormant : writeAnswer true .dormant q e e' = .inl (.notActive, .none) := rfl

theorem writeAnswer_of_fenced : writeAnswer true .fenced q e e' = .inl (.fenced, .none) := rfl

theorem writeAnswer_of_applied {a : Value} (hd : st ≠ .dormant) (hf : st ≠ .fenced)
    (heq : (f e).desired q = e.desired q) (hst : (f e).state = .applied) (ha : (f e).applied = some a) :
    writeAnswer true st q e (e.change f q q st') = .inl (.ok, .value a) := by
  simp [writeAnswer, hd, hf, Entry.change_of_desired_eq heq, Entry.isApplied, hst, heq, ha]

theorem writeAnswer_of_failed (hd : st ≠ .dormant) (hf : st ≠ .fenced) (heq : (f e).desired q = e.desired q)
    (hst : (f e).state = .failed) : writeAnswer true st q e (e.change f q q st') = .inl (.failed, .none) := by
  simp [writeAnswer, hd, hf, Entry.change_of_desired_eq heq, Entry.isApplied, Entry.isFailed, hst, heq]

/-- A WRITE that moves the desired value, or meets an entry that is not settled, waits for the new desired value. -/
theorem writeAnswer_of_unsettled (hd : st ≠ .dormant) (hf : st ≠ .fenced)
    (h : (f e).desired q ≠ e.desired q ∨ ((f e).state ≠ .applied ∧ (f e).state ≠ .failed)) :
    writeAnswer true st q e (e.change f q q st') = .inr ((f e).desired q) := by
  by_cases heq : (f e).desired q = e.desired q
  · obtain ⟨happlied, hfailed⟩ := h.resolve_left (not_not_intro heq)
    rw [Entry.change_of_desired_eq heq]
    cases hst : (f e).state <;> simp_all [writeAnswer, Entry.isApplied, Entry.isFailed]
  · simp [writeAnswer, hd, hf, Entry.desired_change, heq]

end

/-! ### The request's rule -/

theorem State.commitWrite_of_device {s : State} {d : DevNum} {dv : Device} (hd : s.device d = some dv) (r : Register)
    (slot : Fin 4) (c : SlotContent) :
    s.commitWrite d r slot c = s.setDevice d (Device.reexamine (s.markerGranted d)
      (dv.updateEntry r (Entry.change (Entry.commitSlot slot c) dv.profile dv.profile dv.state))) := by
  rw [State.commitWrite, State.modDevice_of_some hd, State.reexamine_setDevice]

section
variable {s : State} {p : Port} {tag b r : Byte} {wait clear : Bool} {v : Value} {d : DevNum} {dv : Device} {e : Entry}

theorem exec_write_of_takes {sl : Byte} (h : s.Takes p (.write b r sl wait clear v) tag) :
    exec (.write p) s = .next (reqWrite p tag b r sl wait clear v (s.dequeue p)) :=
  congrArg Host.Outcome.next (State.takeRequest_of_takes h _)

theorem reqWrite_of_noEntry {sl : Byte} (hn : s.Names b d dv) (he : findEntry r dv.entries = none) :
    reqWrite p tag b r sl wait clear v s = s.respond p tag .notFound .none := by
  simp only [reqWrite, State.findDevice_of_names hn, he]

theorem reqWrite_of_badSlot {sl : Byte} (hn : s.Names b d dv) (he : findEntry r dv.entries = some e)
    (hsl : 4 ≤ sl.toNat) : reqWrite p tag b r sl wait clear v s = s.respond p tag .badRequest .none := by
  simp only [reqWrite, State.findDevice_of_names hn, he, slotOf_eq_none hsl]

theorem reqWrite_of_clearBase (hn : s.Names b d dv) (he : findEntry r dv.entries = some e) :
    reqWrite p tag b r 0 wait true v s = s.respond p tag .badRequest .none := by
  simp only [reqWrite, State.findDevice_of_names hn, he, show slotOf 0 = some 0 from slotOf_ofNat 0]
  rfl

variable {slot : Fin 4}

theorem reqWrite_of_denied (hn : s.Names b d dv) (he : findEntry r dv.entries = some e)
    (hclear : ¬ (clear = true ∧ slot = 0)) (ho : e.owner.admits p = false) :
    reqWrite p tag b r (BitVec.ofNat 8 slot.val) wait clear v s = s.respond p tag .denied .none := by
  simp [reqWrite, State.findDevice_of_names hn, he, slotOf_ofNat, hclear, ho]

theorem reqWrite_of_held (hn : s.Names b d dv) (he : findEntry r dv.entries = some e)
    (hclear : ¬ (clear = true ∧ slot = 0)) (ho : e.owner.admits p = true) {cl : Claim} (hc : s.claim d = some cl)
    (hh : cl.holder ≠ p) :
    reqWrite p tag b r (BitVec.ofNat 8 slot.val) wait clear v s = s.respond p tag .held .none := by
  simp [reqWrite, State.findDevice_of_names hn, he, slotOf_ofNat, hclear, ho, hc, hh]

theorem reqWrite_of_holder (hn : s.Names b d dv) (he : findEntry r dv.entries = some e)
    (hclear : ¬ (clear = true ∧ slot = 0)) (ho : e.owner.admits p = true) {cl : Claim} (hc : s.claim d = some cl)
    (hh : cl.holder = p) :
    reqWrite p tag b r (BitVec.ofNat 8 slot.val) wait clear v s =
      (s.setDevice d (dv.updateEntry r (Entry.stageSlot slot (.ofWrite clear v)))).respond p tag .staged .none := by
  simp [reqWrite, State.findDevice_of_names hn, he, slotOf_ofNat, hclear, ho, hc, hh, SlotContent.ofWrite]

theorem reqWrite_of_answer (hn : s.Names b d dv) (he : findEntry r dv.entries = some e)
    (hclear : ¬ (clear = true ∧ slot = 0)) (ho : e.owner.admits p = true) (hc : s.claim d = none)
    {a : OutcomeCode × Payload}
    (ha : writeAnswer wait dv.state dv.profile e
      (e.change (Entry.commitSlot slot (.ofWrite clear v)) dv.profile dv.profile dv.state) = .inl a) :
    reqWrite p tag b r (BitVec.ofNat 8 slot.val) wait clear v s =
      (s.commitWrite d r slot (.ofWrite clear v)).respond p tag a.1 a.2 := by
  rw [SlotContent.ofWrite] at ha ⊢
  simp [reqWrite, State.findDevice_of_names hn, he, slotOf_ofNat, hclear, ho, hc, ha]

/-- A WRITE that has to wait is refused with nothing committed where the port has no room for one more wait (R130). -/
theorem reqWrite_of_wait (hn : s.Names b d dv) (he : findEntry r dv.entries = some e)
    (hclear : ¬ (clear = true ∧ slot = 0)) (ho : e.owner.admits p = true) (hc : s.claim d = none) {expected : Value}
    (ha : writeAnswer wait dv.state dv.profile e
      (e.change (Entry.commitSlot slot (.ofWrite clear v)) dv.profile dv.profile dv.state) = .inr expected) :
    reqWrite p tag b r (BitVec.ofNat 8 slot.val) wait clear v s =
      if s.capFull p = true then s.respond p tag .busy .none
      else (s.commitWrite d r slot (.ofWrite clear v)).await p ⟨tag, .write, .entry d r expected⟩ := by
  rw [SlotContent.ofWrite] at ha ⊢
  simp [reqWrite, State.findDevice_of_names hn, he, slotOf_ofNat, hclear, ho, hc, ha]

end

/-! ### The statements -/

/-- Settles O27: the checks of R41 in their order, each by the branch of the request's rule that it takes. -/
theorem writeIsRefusedOrStaged : Obligations.WriteIsRefusedOrStaged := by
  intro s p tag b r sl wait clear v d dv ht hn
  have hn' := State.names_dequeue hn p
  rw [exec_write_of_takes ht]
  refine ⟨fun habsent => ?_, fun e he => ⟨fun hbad => ?_, fun hsl hclear => ?_⟩⟩
  · rw [reqWrite_of_noEntry hn' (findEntry_eq_none habsent), State.respond_eq]
  · rcases hbad with hsl | ⟨rfl, rfl⟩
    · rw [reqWrite_of_badSlot hn' he hsl, State.respond_eq]
    · rw [reqWrite_of_clearBase hn' he, State.respond_eq]
  · obtain ⟨slot, rfl⟩ := exists_slot_of_lt hsl
    rw [ofNat_slot_eq_zero] at hclear
    rw [← Owner.admits_eq_false]
    refine ⟨fun howner => ?_, fun howner c hc => ⟨fun hother => ?_, fun hholder => ?_⟩⟩
    · rw [reqWrite_of_denied hn' he hclear howner, State.respond_eq]
    · rw [reqWrite_of_held hn' he hclear (eq_true_of_ne_false howner) ((State.claim_dequeue s p d).trans hc) hother,
        State.respond_eq]
    · rw [reqWrite_of_holder hn' he hclear (eq_true_of_ne_false howner) ((State.claim_dequeue s p d).trans hc) hholder,
        State.respond_eq, ← State.dequeue_devices s p]
      simp only [← Entry.stageSlot_ofWrite hclear]
      rfl

/-- Settles O28: the committed change is `State.commitWrite`, and the answer is `writeAnswer`'s row of R43's table. -/
theorem committedWriteStoresAndAnswers : Obligations.CommittedWriteStoresAndAnswers := by
  intro s p tag b r sl wait clear v d dv e put u ht hn he hclear howner hc hput hu
  have hn' := State.names_dequeue hn p
  have hslot : put = Entry.commitSlot sl (.ofWrite clear v) :=
    funext fun x => (hput x).trans (Entry.commitSlot_ofWrite hclear v x).symm
  have hstate : (put e).state = e.state := by rw [hput]
  have happlied : (put e).applied = e.applied := by rw [hput]
  have hcommit : (s.dequeue p).commitWrite d r sl (.ofWrite clear v) = u := by
    rw [State.commitWrite_of_device hn'.2, hu, ← hslot, State.markerGranted_dequeue, ← State.dequeue_devices s p]
    rfl
  have hfull : (s.dequeue p).capFull p = true ↔ s.full p := by
    rw [State.capFull_dequeue]
    exact decide_eq_true_iff
  have howner' : e.owner.admits p = true := eq_true_of_ne_false (mt Owner.admits_eq_false.mp howner)
  have hc' := (State.claim_dequeue s p d).trans hc
  rw [exec_write_of_takes ht]
  refine ⟨fun hwait => ?_, fun hwait => ⟨fun hst => ?_, fun hst => ?_, fun hdormant hfenced => ?_⟩⟩ <;> subst hwait
  · rw [reqWrite_of_answer hn' he hclear howner' hc' writeAnswer_of_noWait, hcommit, State.respond_eq]
  · rw [reqWrite_of_answer hn' he hclear howner' hc' (hst ▸ writeAnswer_of_dormant), hcommit, State.respond_eq]
  · rw [reqWrite_of_answer hn' he hclear howner' hc' (hst ▸ writeAnswer_of_fenced), hcommit, State.respond_eq]
  · rw [← hstate, ← happlied, hslot]
    refine ⟨fun heq hst a ha => ?_, fun heq hst => ?_, fun hmoves => ?_⟩
    · rw [reqWrite_of_answer hn' he hclear howner' hc' (writeAnswer_of_applied hdormant hfenced heq hst ha), hcommit,
        State.respond_eq]
    · rw [reqWrite_of_answer hn' he hclear howner' hc' (writeAnswer_of_failed hdormant hfenced heq hst), hcommit,
        State.respond_eq]
    · rw [reqWrite_of_wait hn' he hclear howner' hc' (writeAnswer_of_unsettled hdormant hfenced hmoves), hcommit]
      exact ⟨fun hbusy => by rw [if_pos (hfull.mpr hbusy), State.respond_eq],
        fun hroom => by rw [if_neg (mt hfull.mp hroom), State.await_eq]⟩

end Sys2Proof.Machine

/-! Keeping devices in step: the walker's choice and the rotation's grants (R27, R38, R39, R61 to R63). -/

namespace Sys2Proof.Machine

/-! ### Push work and the walker's choice (R38, R39) -/

theorem Entry.isPending_iff {e : Entry} : e.isPending = true ↔ e.state = .pending := by
  cases h : e.state <;> simp [Entry.isPending, h]

theorem Device.inMarkerPhase_iff {dv : Device} : dv.inMarkerPhase = true ↔ dv.state = .loading ∧ dv.phase = .marker := by
  simp [Device.inMarkerPhase]

theorem Device.anyPending_iff {dv : Device} : dv.anyPending = true ↔ ∃ e ∈ dv.entries, e.state = .pending := by
  simp [Device.anyPending, Entry.isPending_iff]

theorem State.pushWork_iff {s : State} {d : DevNum} :
    s.pushWork d = true ↔ ∃ dv, s.device d = some dv ∧ s.claim d = none ∧
      (dv.state = .loading ∨ dv.state = .running ∨ dv.state = .diverged) ∧
      ((∃ e ∈ dv.entries, e.state = .pending) ∨ (dv.state = .loading ∧ dv.phase = .marker)) := by
  unfold State.pushWork
  cases s.device d with
  | none => simp
  | some dv =>
    simp [Device.hasPushWork, Device.anyPending_iff, Device.inMarkerPhase_iff, State.claimed, or_assoc, and_comm]

theorem devicesFrom_eq (c : DevNum) : devicesFrom c = List.ofFn (c + ·) := by
  revert c
  decide

theorem mem_devicesFrom (c d : DevNum) : d ∈ devicesFrom c := by
  rw [devicesFrom_eq, List.mem_ofFn]
  exact ⟨d - c, by abel⟩

/-- The walker's device has push work, and no device that the cursor reaches before it has (R39). -/
theorem State.walkerChoice_eq_some {s : State} {d : DevNum} (h : s.walkerChoice = some d) :
    s.pushWork d = true ∧ ∀ k : Nat, k < (d.val + 6 - s.cursor.val) % 6 →
      ∀ e : DevNum, e.val = (s.cursor.val + k) % 6 → s.pushWork e = false := by
  rw [State.walkerChoice, devicesFrom_eq, List.find?_eq_some_iff_getElem] at h
  obtain ⟨hwork, i, hi, hd, hbefore⟩ := h
  have hi6 : i < 6 := by simpa using hi
  simp only [List.getElem_ofFn] at hd hbefore
  refine ⟨hwork, fun k hk e he => ?_⟩
  have hki : k < i := by
    have hval : (s.cursor.val + i) % 6 = d.val := congrArg Fin.val hd
    omega
  have hek : s.cursor + ⟨k, hki.trans hi6⟩ = e := Fin.ext he.symm
  simpa [hek] using hbefore k hki

theorem State.walkerChoice_eq_none_iff {s : State} : s.walkerChoice = none ↔ ∀ d, s.pushWork d = false := by
  simp [State.walkerChoice, mem_devicesFrom]

/-! ### The rotation (R61 to R63) -/

theorem State.hasWork_pushWalker_iff {s : State} : s.hasWork .pushWalker = true ↔ ∃ d, s.pushWork d = true := by
  rw [State.hasWork, Option.isSome_iff_ne_none, ne_eq, State.walkerChoice_eq_none_iff]
  simp

theorem State.linkFree_iff {s : State} :
    s.linkFree = true ↔ s.txn = none ∧ s.hubState = .ready ∧ s.inputs.hold = false := by
  simp [State.linkFree, State.ready, and_assoc]

theorem State.nextProbe_eq_none_iff {s : State} :
    s.nextProbe = none ↔ ∀ d dv, s.device d = some dv → dv.probeDue = false := by
  have hmem : ∀ d : DevNum, d ∈ devNums := by decide
  have hdue : ∀ d, s.probeDue d = false ↔ ∀ dv, s.device d = some dv → dv.probeDue = false := fun d => by
    unfold State.probeDue
    cases s.device d <;> simp
  simp [State.nextProbe, hmem, hdue]

/-- Every requester is among the three that the rotation goes through. -/
theorem Rotation.eq_or_next (q r : Rotation) : r = q ∨ r = q.next ∨ r = q.next.next := by
  cases q <;> cases r <;> decide

theorem State.rotationChoice_eq_some_iff {s : State} {r : Rotation} :
    s.rotationChoice = some r ↔ s.hasWork r = true ∧
      (r = s.rotation ∨ s.hasWork s.rotation = false ∧ (r = s.rotation.next ∨ s.hasWork s.rotation.next = false)) := by
  have hcases := Rotation.eq_or_next s.rotation r
  rw [State.rotationChoice]
  cases hfirst : s.hasWork s.rotation with
  | true =>
    rw [List.find?_cons_of_pos hfirst]
    grind
  | false =>
    rw [List.find?_cons_of_neg (by simp [hfirst])]
    cases hsecond : s.hasWork s.rotation.next with
    | true =>
      rw [List.find?_cons_of_pos hsecond]
      grind
    | false =>
      rw [List.find?_cons_of_neg (by simp [hsecond]), List.find?_singleton]
      grind

theorem State.rotationGrant_eq_some_iff {s : State} {r : Rotation} :
    s.rotationGrant = some r ↔ s.txn = none ∧ s.hubState = .ready ∧ s.inputs.hold = false ∧
      (∀ d dv, s.device d = some dv → dv.probeDue = false) ∧ s.rotationChoice = some r := by
  rw [State.rotationGrant, Option.ite_none_right_eq_some, Bool.and_eq_true, State.linkFree_iff,
    Option.isNone_iff_eq_none, State.nextProbe_eq_none_iff]
  simp only [and_assoc]

/-! ### The walker's grants (R27, R39) -/

/-- What a search finds in an ascending list is the lowest register that it admits. -/
theorem lowest_of_find?_eq_some {es : List Entry} {e : Entry} {f : Entry → Bool}
    (hasc : ascending (es.map Entry.register) = true) (h : es.find? f = some e) :
    ∀ x ∈ es, f x = true → e.register.toNat ≤ x.register.toNat := by
  obtain ⟨_, before, after, rfl, hbefore⟩ := List.find?_eq_some_iff_append.mp h
  rw [ascending_iff_pairwise, List.pairwise_map, List.pairwise_append, List.pairwise_cons] at hasc
  obtain ⟨_, ⟨hafter, _⟩, _⟩ := hasc
  intro x hx hfx
  rcases List.mem_append.mp hx with hmem | hmem
  · exact absurd hfx (by simpa using hbefore x hmem)
  · rcases List.mem_cons.mp hmem with rfl | hmem
    · exact Nat.le_refl _
    · exact Nat.le_of_lt (hafter x hmem)

section
variable {s : State} {d : DevNum} {dv : Device}

theorem exec_markerGrant_of_choice (hg : s.rotationGrant = some .pushWalker) (hw : s.walkerChoice = some d)
    (hd : s.device d = some dv) (hm : dv.inMarkerPhase = true) :
    exec .markerGrant s = .next ((s.rotateFrom .pushWalker).grantMarker d dv) := by
  show execMarkerGrant s = _
  simp [execMarkerGrant, hg, hw, hd, hm]

theorem exec_pushGrant_of_choice (hg : s.rotationGrant = some .pushWalker) (hw : s.walkerChoice = some d)
    (hd : s.device d = some dv) (hm : dv.inMarkerPhase = false) :
    exec .pushGrant s = .next ((s.rotateFrom .pushWalker).grantPush d dv) := by
  show execPushGrant s = _
  simp [execPushGrant, hg, hw, hd, hm]

theorem State.grantPush_of_lowest {e : Entry} (he : dv.lowestPending = some e) :
    s.grantPush d dv = (s.setDevice d (dv.updateEntry e.register (Entry.launched dv.profile))).startTxn
      (Txn.granted .push d e.register .pushWalker dv.params) .write (e.desired dv.profile) := by
  simp only [State.grantPush, he]

/-- A device that the walker takes outside load phase MARKER has a PENDING entry (R38). -/
theorem Device.exists_lowestPending (hw : s.walkerChoice = some d) (hd : s.device d = some dv)
    (hm : ¬ (dv.state = .loading ∧ dv.phase = .marker)) : ∃ e, dv.lowestPending = some e := by
  obtain ⟨dv', hd', _, _, hwork⟩ := State.pushWork_iff.mp (State.walkerChoice_eq_some hw).1
  cases hd.symm.trans hd'
  obtain ⟨e, he, hst⟩ := hwork.resolve_right hm
  exact Option.isSome_iff_exists.mp (List.find?_isSome.mpr ⟨e, he, Entry.isPending_iff.mpr hst⟩)

end

/-! ### The statement -/

/-- Settles O45: the choices are the walker's search from the cursor and the rotation's search from rotation next, and a
grant to the walker starts the transaction that its device's load phase calls for. -/
theorem walkerGrantsPushOrMarkerByRotation : Obligations.WalkerGrantsPushOrMarkerByRotation := by
  refine ⟨fun s => ⟨fun d => State.pushWork_iff, fun d => State.walkerChoice_eq_some, State.walkerChoice_eq_none_iff,
      State.hasWork_pushWalker_iff, by simp [State.hasWork], by simp [State.hasWork], fun r => ?_⟩,
    rfl, rfl, rfl, fun s d dv hg hw hd => ⟨fun hst hph => ?_, fun hm hasc => ?_⟩⟩
  · rw [State.rotationGrant_eq_some_iff, State.rotationChoice_eq_some_iff]
  · rw [exec_markerGrant_of_choice hg hw hd (Device.inMarkerPhase_iff.mpr ⟨hst, hph⟩)]
    rfl
  · obtain ⟨e, he⟩ := Device.exists_lowestPending hw hd hm
    refine ⟨e, List.mem_of_find?_eq_some he, Entry.isPending_iff.mp (List.find?_some he),
      fun x hx hst => lowest_of_find?_eq_some hasc he x hx (Entry.isPending_iff.mpr hst), ?_⟩
    rw [exec_pushGrant_of_choice hg hw hd (eq_false_of_ne_true (mt Device.inMarkerPhase_iff.mp hm)),
      State.grantPush_of_lowest he]
    rfl

end Sys2Proof.Machine

/-! Keeping devices in step: the judgement of a push and what follows it (R13, R28 to R30, R34, R44 to R46, R119). -/

namespace Sys2Proof.Machine

/-! ### Both ports, and the transition's count -/

theorem State.answer_eq (s : State) (f : Outstanding → Option (OutcomeCode × Payload)) :
    s.answer f = { s with ports := s.eachPort (PortSide.answer f) } := rfl

theorem State.post_eq (s : State) (n : Notice) : s.post n = { s with ports := s.eachPort (PortSide.post n) } := rfl

/-- Where no request is answered, a port stays as it is. -/
theorem PortSide.answer_eq_self {f : Outstanding → Option (OutcomeCode × Payload)} (h : ∀ o, f o = none) (q : PortSide) :
    q.answer f = q := by
  simp [PortSide.answer, h]

theorem ProfileController.counting_of_none {c : ProfileController} (h : c.transition = none) (n : Nat) :
    c.counting n = c := by
  cases c
  simp_all [ProfileController.counting]

theorem State.addUnapplied_eq_counting (s : State) (n : Nat) :
    s.addUnapplied n = { s with profiles := s.profiles.counting n } := by
  cases h : s.profiles.transition with
  | none => simp only [State.addUnapplied, h, ProfileController.counting_of_none h]
  | some t => simp only [State.addUnapplied, ProfileController.counting, h, Option.map_some]

@[simp] theorem ProfileController.counting_zero (c : ProfileController) : c.counting 0 = c := by
  simp [ProfileController.counting]

/-! ### Settled devices (R34, R46) -/

theorem Device.settled_iff {dv : Device} : dv.settled = true ↔ dv.Settled := by
  simp [Device.settled, Device.Settled, Device.anyUnsettled]

theorem Entry.isFailed_iff {e : Entry} : e.isFailed = true ↔ e.state = .failed := by
  cases h : e.state <;> simp [Entry.isFailed, h]

theorem Device.failedCount_eq (dv : Device) :
    dv.failedCount = (dv.entries.filter fun e => decide (e.state = .failed)).length := by
  simp [Device.failedCount, List.countP_eq_length_filter, ← Entry.isFailed_iff]

theorem Device.failedCount_ne_zero_iff {dv : Device} : dv.failedCount ≠ 0 ↔ dv.anyFailed = true := by
  simp [Device.failedCount, Device.anyFailed]

theorem Device.entries_reexamine (granted : Bool) (dv : Device) : (dv.reexamine granted).entries = dv.entries := by
  unfold Device.reexamine
  repeat' split
  all_goals rfl

/-- Re-examination moves the device state between RUNNING and DIVERGED alone (R33). -/
theorem Device.state_reexamine (granted : Bool) (dv : Device) :
    (dv.reexamine granted).state =
      if dv.state = .running ∨ dv.state = .diverged then if dv.anyFailed = true then .diverged else .running
      else dv.state := by
  cases hst : dv.state with
  | running | diverged => cases hf : dv.anyFailed <;> simp [Device.reexamine, hst, hf]
  | dormant | suspect | fenced => simp [Device.reexamine, hst]
  | loading =>
    simp only [Device.reexamine, hst]
    repeat' split
    all_goals simp_all

/-- A re-examined device that is settled is DIVERGED exactly where an entry is FAILED (R33, R34). -/
theorem Device.diverged_reexamine_iff {granted : Bool} {dv : Device} (h : (dv.reexamine granted).Settled) :
    (dv.reexamine granted).state = .diverged ↔ (dv.reexamine granted).anyFailed = true := by
  have hfailed : (dv.reexamine granted).anyFailed = dv.anyFailed := by
    rw [Device.anyFailed, Device.entries_reexamine, Device.anyFailed]
  obtain ⟨hstate, _⟩ := h
  rw [hfailed]
  rw [Device.state_reexamine] at hstate ⊢
  grind

theorem settleAnswer_eq {d : DevNum} {dv : Device} (h : dv.state = .diverged ↔ dv.anyFailed = true) :
    settleAnswer d dv = toSettleWaits d (settledAnswer dv.failedCount) := by
  rw [← Device.failedCount_ne_zero_iff] at h
  funext o
  unfold settleAnswer toSettleWaits settledAnswer
  simp only [h]
  cases o.wait with
  | settle d' count => cases count <;> split_ifs <;> rfl
  | entry _ _ _ | transition | manual | save => rfl

/-- A device-settle wait is answered where a happening leaves its device settled, and it was not before (R34, R46). -/
theorem State.answerSettled_eq_settling {before s : State} {d : DevNum} {dv after : Device}
    (hb : before.device d = some dv) (hd : s.device d = some after)
    (h : after.Settled → (after.state = .diverged ↔ after.anyFailed = true)) :
    State.answerSettled before d s = { s with ports := s.eachPort (PortSide.settling d dv after) } := by
  have hcond : (after.settled && !before.settled d) = true ↔ after.Settled ∧ ¬ dv.Settled := by
    simp only [State.settled, hb, Bool.and_eq_true, Bool.not_eq_true', ← Bool.not_eq_true, Device.settled_iff]
  have hsettling : PortSide.settling d dv after = fun q =>
      if after.Settled ∧ ¬ dv.Settled then q.answer (toSettleWaits d (settledAnswer after.failedCount)) else q := by
    funext q
    rw [PortSide.settling, Device.failedCount_eq]
  simp only [State.answerSettled, hd, hcond, hsettling]
  split
  next hnew => rw [settleAnswer_eq (h hnew.1), State.answer_eq]
  next => rfl

/-! ### The judgement of an entry (R13, R28 to R30, R119) -/

theorem readbackMatches_iff {mask sent read : Value} :
    readbackMatches mask sent read = true ↔ ∀ i, mask.getLsbD i = true → read.getLsbD i = sent.getLsbD i := by
  rw [readbackMatches, decide_eq_true_iff]
  refine ⟨fun h i hi => ?_, fun h => BitVec.eq_of_getLsbD_eq fun i _ => ?_⟩
  · simpa [hi] using congrArg (BitVec.getLsbD · i) h
  · cases hi : mask.getLsbD i with
    | true => simp [hi, h i hi]
    | false => simp [hi]

/-- What a judgement of a push makes of the entry of register r, with the value x sent: no longer IN_FLIGHT, with x applied
where it is APPLIED, and with its mark cleared where it is FAILED. -/
structure Entry.Judged (r : Register) (x : Value) (new : Entry) : Prop where
  register : new.register = r
  landed : new.isInFlight = false
  applied : new.state = .applied → new.applied = some x
  failed : new.state = .failed → new.mark = false

theorem Entry.judged_judgeSuccess (e : Entry) (p : Profile) (x : Value) : Entry.Judged e.register x (e.judgeSuccess p x) := by
  unfold Entry.judgeSuccess
  split <;> constructor <;> simp [Entry.isInFlight]

theorem Entry.judged_judgeFailure (e : Entry) (limit : Nat) (x : Value) :
    Entry.Judged e.register x (e.judgeFailure limit) := by
  unfold Entry.judgeFailure
  split <;> constructor <;> simp [Entry.isInFlight]

theorem Entry.judgeSuccess_state_ne_failed (e : Entry) (p : Profile) (x : Value) :
    (e.judgeSuccess p x).state ≠ .failed := by
  unfold Entry.judgeSuccess
  split <;> simp

/-! ### What follows a judgement (R44, R45, R122) -/

/-- A port once the entry of register r of device d, with the value x sent, has been judged to be `new` (R44). -/
def PortSide.judged (d : DevNum) (r : Register) (x : Value) (new : Entry) (q : PortSide) : PortSide :=
  if new.state = .applied then
    q.answer (toEntryWaits d r fun expected => (if x = expected then .ok else .superseded, .value x))
  else if new.state = .failed then (q.answer (toEntryWaits d r fun _ => (.failed, .none))).post (.entryFailed d r)
  else q

section
variable {d : DevNum} {r : Register} {x : Value} {new : Entry}

theorem entryWaitAnswer_of_applied (hst : new.state = .applied) (ha : new.applied = some x) :
    entryWaitAnswer d new =
      toEntryWaits d new.register fun expected => (if x = expected then .ok else .superseded, .value x) := by
  funext o
  unfold entryWaitAnswer toEntryWaits
  cases o.wait with
  | entry _ _ _ => simp only [hst, ha]
  | settle _ _ | transition | manual | save => rfl

theorem entryWaitAnswer_of_failed (hst : new.state = .failed) :
    entryWaitAnswer d new = toEntryWaits d new.register fun _ => (.failed, .none) := by
  funext o
  unfold entryWaitAnswer toEntryWaits
  cases o.wait with
  | entry _ _ _ => simp only [hst]
  | settle _ _ | transition | manual | save => rfl

theorem entryWaitAnswer_of_pending (hst : new.state = .pending) (o : Outstanding) : entryWaitAnswer d new o = none := by
  unfold entryWaitAnswer
  cases o.wait with
  | entry _ _ _ => simp [hst]
  | settle _ _ | transition | manual | save => rfl

/-- The answers to the entry waits and the notice of a failure, as one judgement gives them to a port (R44, R45). -/
theorem PortSide.judged_eq (h : Entry.Judged r x new) (q : PortSide) :
    q.judged d r x new =
      if new.isFailed = true then (q.answer (entryWaitAnswer d new)).post (.entryFailed d new.register)
      else q.answer (entryWaitAnswer d new) := by
  obtain ⟨rfl, hlanded, happlied, -⟩ := h
  cases hst : new.state with
  | applied => simp [PortSide.judged, Entry.isFailed, hst, entryWaitAnswer_of_applied hst (happlied hst)]
  | failed => simp [PortSide.judged, Entry.isFailed, hst, entryWaitAnswer_of_failed hst]
  | pending => simp [PortSide.judged, Entry.isFailed, hst, PortSide.answer_eq_self (entryWaitAnswer_of_pending hst)]
  | inFlight _ _ => simp [Entry.isInFlight, hst] at hlanded

end

section
variable {s : State} {d : DevNum} {r : Register} {x : Value} {dv after : Device} {e new : Entry}

/-- The entry, its waits and the notice of a failure as a judgement leaves them, before the device is re-examined. -/
theorem State.record_of_judged (hd : s.device d = some dv) (hj : Entry.Judged r x new) (f : Entry → Entry) :
    (if new.isFailed = true then
        ((s.modDevice d (Device.updateEntry r f)).answer (entryWaitAnswer d new)).post (.entryFailed d new.register)
      else (s.modDevice d (Device.updateEntry r f)).answer (entryWaitAnswer d new)) =
      ({ s with ports := s.eachPort (PortSide.judged d r x new) } : State).setDevice d (dv.updateEntry r f) := by
  have hports : PortSide.judged d r x new = _ := funext (PortSide.judged_eq hj)
  rw [State.modDevice_of_some hd, hports]
  split <;> rfl

/-- The count and the completion test that follow a judgement: a mark is cleared, counted as unapplied with FAILED (R119). -/
theorem State.counted_of_judged (hj : Entry.Judged r x new) (t : State) :
    (if (e.mark && !new.mark) = true then (t.addUnapplied (if new.isFailed = true then 1 else 0)).completionTest else t) =
      if e.mark = true ∧ new.mark = false then
        State.completionTest
          { t with profiles := if e.mark = true ∧ new.state = .failed then t.profiles.counting 1 else t.profiles }
      else { t with profiles := if e.mark = true ∧ new.state = .failed then t.profiles.counting 1 else t.profiles } := by
  simp only [Bool.and_eq_true, Bool.not_eq_true', State.addUnapplied_eq_counting, Entry.isFailed_iff]
  by_cases hcleared : e.mark = true ∧ new.mark = false
  · rw [if_pos hcleared, if_pos hcleared]
    by_cases hst : new.state = .failed <;> simp [hst, hcleared.1]
  · have hkept : ¬ (e.mark = true ∧ new.state = .failed) := fun h => hcleared ⟨h.1, hj.failed h.2⟩
    rw [if_neg hcleared, if_neg hcleared, if_neg hkept]

/-- A judgement of an entry with its consequences: the record re-examined, the answers and the notice, the settle waits,
the count of a FAILED entry's mark, and the completion test where a mark is cleared. -/
theorem State.afterJudgement_of_judged {u : State} (hd : s.device d = some dv) (he : e.register = r)
    (hj : Entry.Judged r x new)
    (hafter : after = Device.reexamine (s.markerGranted d)
      { dv with entries := dv.entries.map fun y => if y.register = r then new else y })
    (hu : u = { s with
      devices := s.devices.set d (some after)
      profiles := if e.mark = true ∧ new.state = .failed then s.profiles.counting 1 else s.profiles
      ports := s.eachPort fun q => PortSide.settling d dv after (q.judged d r x new) }) :
    s.afterJudgement d e new = if e.mark = true ∧ new.mark = false then u.completionTest else u := by
  subst he
  have hreexamined :
      (({ s with ports := s.eachPort (PortSide.judged d e.register x new) } : State).setDevice d
        (dv.updateEntry e.register fun _ => new)).reexamine d =
      ({ s with ports := s.eachPort (PortSide.judged d e.register x new) } : State).setDevice d after := by
    rw [State.reexamine_setDevice, hafter]
    rfl
  have hsettled := State.answerSettled_eq_settling hd
    (State.device_setDevice_self { s with ports := s.eachPort (PortSide.judged d e.register x new) } d after)
    fun h => by
      rw [hafter] at h ⊢
      exact Device.diverged_reexamine_iff h
  simp only [State.afterJudgement, State.record_of_judged hd hj, hreexamined, hsettled, State.counted_of_judged hj, hu]
  rfl

theorem State.judgePush_of_flight {ph : PushPhase} (hd : s.device d = some dv) (he : findEntry r dv.entries = some e)
    (hst : e.state = .inFlight ph x) (judge : Device → Entry → Value → Entry) :
    s.judgePush d r judge = s.afterJudgement d e (judge dv e x) := by
  simp only [State.judgePush, hd, he, hst]

end

/-! ### The ends of a push's frames (R28, R29) -/

theorem nextDev_eq (d : DevNum) : nextDev d = if d = 5 then 0 else d + 1 := by
  revert d
  decide

theorem State.endTxn_of_push {t : Txn} (h : t.kind = .push) (s : State) :
    s.endTxn t = { s with txn := none, link := none, cursor := if t.device = 5 then 0 else t.device + 1 } := by
  rw [State.endTxn, if_pos (.inl h), nextDev_eq]

section
variable {s : State} {t : Txn} {f : LinkFrame}

theorem State.frameOf_of_txn (ht : s.txn = some t) (hl : s.link = some f) : s.frameOf t.kind = some t := by
  simp [State.frameOf, ht, hl]

theorem exec_pushWriteFrameEnd_of_none (ht : s.txn = some t) (hl : s.link = some f) (hk : t.kind = .push)
    (hf : t.frame = 1) (hc : t.discard = false) (hv : t.params.verifyPolicy = .none) :
    exec .pushWriteFrameEnd s = .next
      ((s.judgePush t.device t.register fun dv e sent => e.judgeSuccess dv.profile sent).endTxn t) := by
  show execPushWriteFrameEnd s = _
  simp [execPushWriteFrameEnd, hk ▸ State.frameOf_of_txn ht hl, hf, hc, hv]

theorem exec_readbackEnd_of_push (ht : s.txn = some t) (hl : s.link = some f) (hk : t.kind = .push)
    (hf : t.frame ≠ 1) (hc : t.discard = false) (bits : SampledBits) :
    exec (.readbackEnd bits) s = .next
      ((s.judgePush t.device t.register (judgeReadback (readResult bits))).endTxn t) := by
  show execReadbackEnd bits s = _
  simp [execReadbackEnd, hk ▸ State.frameOf_of_txn ht hl, hf, hc]

end

section
variable {result : Option Value} {dv : Device} {e : Entry} {x : Value}

/-- A readback with good parity that matches the sent value under the mask is judged a success (R13, R29). -/
theorem judgeReadback_of_match
    (h : ∃ v, result = some v ∧ ∀ i, e.verifyMask.getLsbD i = true → v.getLsbD i = x.getLsbD i) :
    judgeReadback result dv e x = e.judgeSuccess dv.profile x := by
  obtain ⟨v, rfl, hmatch⟩ := h
  exact if_pos (readbackMatches_iff.mpr hmatch)

/-- A parity error or a mismatch is judged a failed attempt (R30). -/
theorem judgeReadback_of_mismatch
    (h : ¬ ∃ v, result = some v ∧ ∀ i, e.verifyMask.getLsbD i = true → v.getLsbD i = x.getLsbD i) :
    judgeReadback result dv e x = e.judgeFailure dv.params.retryLimit := by
  cases result with
  | none => rfl
  | some v => exact if_neg fun hmatch => h ⟨v, rfl, readbackMatches_iff.mp hmatch⟩

theorem judged_judgeReadback (result : Option Value) (dv : Device) (e : Entry) (x : Value) :
    Entry.Judged e.register x (judgeReadback result dv e x) := by
  unfold judgeReadback
  repeat' split
  · exact e.judged_judgeSuccess dv.profile x
  · exact e.judged_judgeFailure dv.params.retryLimit x
  · exact e.judged_judgeFailure dv.params.retryLimit x

end

/-! ### The statement -/

/-- Settles O49: each end of a push's frame judges the entry, and `State.afterJudgement_of_judged` says what follows. -/
theorem pushesAreJudged : Obligations.PushesAreJudged := by
  refine ⟨fun s u v t f dv after e new ph x ht hl hk hf hc hpolicy hd he hst hnew hafter hu hv => ?_,
    fun s u v t f dv after e new ph x bits good ht hl hk hf hc hd he hst hgood hmatch hmismatch hafter hu hv => ?_⟩
  · have hjudged : Entry.Judged e.register x new := hnew ▸ e.judged_judgeSuccess dv.profile x
    have hfailed : new.state ≠ .failed := hnew ▸ e.judgeSuccess_state_ne_failed dv.profile x
    rw [exec_pushWriteFrameEnd_of_none ht hl hk hf hc hpolicy, State.judgePush_of_flight hd he hst,
      show e.judgeSuccess dv.profile x = new from hnew.symm,
      State.afterJudgement_of_judged (u := u) hd (findEntry_mem he).1 ((findEntry_mem he).1 ▸ hjudged) hafter
        (by simp only [hu, PortSide.judged, hfailed, if_false, and_false]),
      ← hv, State.endTxn_of_push hk]
  · have hresult : judgeReadback (readResult bits) dv e x = new := by
      by_cases h : good
      · rw [judgeReadback_of_match (hgood.mp h), hmatch h]
        rfl
      · rw [judgeReadback_of_mismatch (mt hgood.mpr h), hmismatch h]
        rfl
    have hjudged : Entry.Judged e.register x new := hresult ▸ judged_judgeReadback _ dv e x
    rw [exec_readbackEnd_of_push ht hl hk (by omega) hc, State.judgePush_of_flight hd he hst, hresult,
      State.afterJudgement_of_judged hd (findEntry_mem he).1 ((findEntry_mem he).1 ▸ hjudged) hafter hu,
      ← hv, State.endTxn_of_push hk]

end Sys2Proof.Machine

/-! The device link: the parity of a frame and the lines that carry it (R52 to R56, R195). -/

namespace Sys2Proof.Machine

/-! ### Counting ones (R55) -/

theorem onesBelow_eq_length_filter {w : Nat} (b : BitVec w) (n : Nat) :
    onesBelow b n = ((List.range n).filter fun i => b.getLsbD i).length := by
  induction n with
  | zero => rfl
  | succ n ih =>
    rw [onesBelow, ih, List.range_succ, List.filter_append, List.length_append, List.filter_singleton]
    cases b.getLsbD n <;> simp [Nat.add_comm]

theorem onesBelow_append_ofBool {w : Nat} (b : BitVec w) (p : Bool) (n : Nat) :
    onesBelow (b ++ BitVec.ofBool p) (n + 1) = onesBelow b n + p.toNat := by
  induction n with
  | zero =>
    rw [onesBelow, onesBelow, BitVec.getLsbD_append, if_pos Nat.zero_lt_one]
    cases p <;> rfl
  | succ n ih =>
    have hbit : (b ++ BitVec.ofBool p).getLsbD (n + 1) = b.getLsbD n := by
      rw [BitVec.getLsbD_append, if_neg (by omega), Nat.add_sub_cancel]
    rw [onesBelow, ih, hbit, onesBelow, Nat.add_assoc]

/-- The parity of a word is linear in its bits. -/
theorem onesBelow_xor_mod_two {w : Nat} (a b : BitVec w) (n : Nat) :
    onesBelow (a ^^^ b) n % 2 = (onesBelow a n + onesBelow b n) % 2 := by
  induction n with
  | zero => rfl
  | succ n ih =>
    have hbit : ∀ x y : Bool, (if (x ^^ y) then 1 else 0) % 2 = ((if x then 1 else 0) + if y then 1 else 0) % 2 := by
      decide
    have hlast := hbit (a.getLsbD n) (b.getLsbD n)
    simp only [onesBelow, BitVec.getLsbD_xor]
    omega

theorem onesBelow_twoPow {w i : Nat} (hi : i < w) (n : Nat) : onesBelow (BitVec.twoPow w i) n = if i < n then 1 else 0 := by
  induction n with
  | zero => rfl
  | succ n ih =>
    rw [onesBelow, ih, BitVec.getLsbD_twoPow]
    simp only [hi, decide_true, Bool.true_and, decide_eq_true_eq]
    split_ifs <;> omega

/-! ### The result of a read frame (R54, R55) -/

/-- A read hands over its 16 data bits exactly where the last bit is their parity bit. -/
theorem readResult_append_ofBool (v : Value) (p : Bool) :
    readResult (v ++ BitVec.ofBool p) = if p = parityBit v then some v else none := by
  have hdata : (v ++ BitVec.ofBool p).extractLsb' 1 16 = v := BitVec.extractLsb'_append_eq_left
  have heven : (onesBelow v 16 + p.toNat) % 2 = 0 ↔ p = parityBit v := by
    rw [parityBit]
    cases p with
    | false => simp
    | true =>
      rw [Bool.toNat_true, eq_comm (a := true), decide_eq_true_eq]
      omega
  rw [readResult, onesBelow_append_ofBool, hdata]
  exact if_congr heven rfl rfl

theorem readResult_sampleOf (v : Value) : readResult (sampleOf v) = some v := by
  rw [sampleOf, readResult_append_ofBool, if_pos rfl]

/-- The 17 sampled bits are 16 data bits and a parity bit. -/
theorem SampledBits.exists_append (b : SampledBits) : ∃ (v : Value) (p : Bool), b = v ++ BitVec.ofBool p := by
  refine ⟨b.extractLsb' 1 16, b.getLsbD 0, BitVec.eq_of_getLsbD_eq fun i hi => ?_⟩
  rw [BitVec.getLsbD_append]
  cases i with
  | zero => simp
  | succ i => simp [show i < 16 by omega, Nat.add_comm]

theorem readResult_eq_some_iff {b : SampledBits} {v : Value} : readResult b = some v ↔ b = sampleOf v := by
  refine ⟨fun h => ?_, fun h => h ▸ readResult_sampleOf v⟩
  obtain ⟨u, p, rfl⟩ := SampledBits.exists_append b
  rw [readResult_append_ofBool, Option.ite_none_right_eq_some] at h
  obtain ⟨hp, hu⟩ := h
  cases hu
  rw [hp, sampleOf]

theorem onesBelow_sampleOf (v : Value) : onesBelow (sampleOf v) 17 % 2 = 0 := by
  by_contra h
  have hread := readResult_sampleOf v
  rw [readResult, if_neg h] at hread
  cases hread

theorem onesBelow_twoPow_sampled (i : Fin 17) : onesBelow (BitVec.twoPow 17 i.val) 17 = 1 := by
  rw [onesBelow_twoPow i.isLt, if_pos i.isLt]

/-- One corrupted bit makes the ones odd. -/
theorem readResult_of_one_flip (v : Value) (i : Fin 17) : readResult (sampleOf v ^^^ BitVec.twoPow 17 i.val) = none := by
  refine if_neg ?_
  have heven := onesBelow_sampleOf v
  rw [onesBelow_xor_mod_two, onesBelow_twoPow_sampled]
  omega

/-- Two corrupted bits leave the ones even. -/
theorem readResult_of_two_flips (v : Value) (i j : Fin 17) :
    (readResult (sampleOf v ^^^ BitVec.twoPow 17 i.val ^^^ BitVec.twoPow 17 j.val)).isSome = true := by
  have heven := onesBelow_sampleOf v
  have hone := onesBelow_xor_mod_two (sampleOf v) (BitVec.twoPow 17 i.val) 17
  rw [onesBelow_twoPow_sampled] at hone
  rw [readResult, if_pos, Option.isSome_some]
  rw [onesBelow_xor_mod_two, onesBelow_twoPow_sampled]
  omega

/-! ### The bits of a frame (R53, R195) -/

/-- The fields of a frame in the order of sending, most significant first. -/
theorem LinkFrame.writeBits_eq (f : LinkFrame) :
    f.writeBits = f.op.bits ++ f.register ++ f.data ++ BitVec.ofBool (parityBit f.data) := by
  have hassoc := congrArg BitVec.toNat
    (BitVec.append_assoc (x₁ := f.header) (x₂ := f.data) (x₃ := BitVec.ofBool (parityBit f.data)))
  rw [BitVec.toNat_cast] at hassoc
  exact BitVec.eq_of_toNat_eq hassoc.symm

/-- A read frame opens with the same 10 bits as a write frame (R54). -/
theorem LinkFrame.getLsbD_header (f : LinkFrame) {k : Nat} (hk : k < 10) :
    f.header.getLsbD (9 - k) = f.writeBits.getLsbD (26 - k) := by
  rw [LinkFrame.writeBits, BitVec.getLsbD_append, if_neg (by omega), show 26 - k - (16 + 1) = 9 - k by omega]

/-- The hub drives the bits of the whole frame, the first 10 of them also in a read frame (R53, R54). -/
theorem LinkFrame.drives_eq_writeBits {f : LinkFrame} {k : Nat} (hk : k < 27) (h : k < 10 ∨ f.op = .write) :
    f.drives k = some (f.writeBits.getLsbD (26 - k)) := by
  cases hop : f.op with
  | write => exact LinkFrame.drives_of_write hop hk
  | read =>
    have hhead : k < 10 := h.resolve_right (by simp [hop])
    simp [LinkFrame.drives, hop, hhead, LinkFrame.getLsbD_header]

/-! ### The statement -/

/-- Settles O48: the parity is linear in the bits, so that a read hands over exactly the samples of a value, and the lines
are those of the frame on the link. -/
theorem linkFramesCarryEvenParity : Obligations.LinkFramesCarryEvenParity := by
  refine ⟨fun f => ?_, readResult_sampleOf, fun b v => readResult_eq_some_iff, readResult_of_one_flip,
    fun v i j _ => readResult_of_two_flips v i j, by decide, by decide, fun s k hl => ?_, fun s f k hl hk => ?_⟩
  · rw [LinkFrame.writeBits_eq, parityBit, onesBelow_eq_length_filter]
    cases f.op <;> rfl
  · rw [State.linkLines_of_idle hl]
    exact ⟨rfl, rfl⟩
  · rw [State.linkLines_of_frame hl]
    refine ⟨rfl, rfl, LinkFrame.drives_eq_writeBits hk, fun hdata hread => ?_⟩
    have hreleased : f.drives k = none := LinkFrame.drives_of_read hread hdata
    exact ⟨hreleased, fun slave => by simp [LinkLines.ddatLevel, hreleased]⟩

end Sys2Proof.Machine

/-! The device link: what the arbiter grants and turns away, and the probe that it grants first (R61 to R64, R77). -/

namespace Sys2Proof.Machine

/-! ### The arbiter's choice (R61 to R63) -/

theorem State.linkFree_eq_false {s : State}
    (h : s.inputs.hold = true ∨ s.txn.isSome = true ∨ s.hubState ≠ .ready) : s.linkFree = false := by
  refine eq_false_of_ne_true fun hfree => ?_
  obtain ⟨htxn, hready, hhold⟩ := State.linkFree_iff.mp hfree
  rcases h with h | h | h
  · simp [hhold] at h
  · simp [htxn] at h
  · exact h hready

theorem State.rotationGrant_of_not_linkFree {s : State} (h : s.linkFree = false) : s.rotationGrant = none := by
  simp [State.rotationGrant, h]

/-- A due probe goes ahead of the rotation (R62). -/
theorem State.rotationGrant_of_nextProbe {s : State} {d : DevNum} (h : s.nextProbe = some d) : s.rotationGrant = none := by
  simp [State.rotationGrant, h]

/-- The search of R62 ends at the lowest-numbered device with a probe due. -/
theorem State.nextProbe_eq_some_iff {s : State} {d : DevNum} :
    s.nextProbe = some d ↔ s.probeDue d = true ∧ ∀ e < d, s.probeDue e = false := by
  rw [State.nextProbe, show devNums = List.ofFn (id : DevNum → DevNum) by decide]
  simpa using List.find?_ofFn_eq_some_of_injective (i := d) (p := s.probeDue) Function.injective_id

/-- The commands that the rotation's grant makes are turned away where it makes none (R63, log entry 4). -/
theorem exec_of_no_rotationGrant {s : State} (h : s.rotationGrant = none) :
    ∀ c ∈ [Instr.pushGrant, .markerGrant, .manualRead, .manualWrite], exec c s = .next s := by
  have hpush : execPushGrant s = .next s := by simp [execPushGrant, h]
  have hmarker : execMarkerGrant s = .next s := by simp [execMarkerGrant, h]
  have hmanual : s.manualGrant = none := by simp [State.manualGrant, h]
  have hread : execManualRead s = .next s := by simp [execManualRead, hmanual]
  have hwrite : execManualWrite s = .next s := by simp [execManualWrite, hmanual]
  simp only [List.forall_mem_cons]
  exact ⟨hpush, hmarker, hread, hwrite, List.forall_mem_nil _⟩

/-! ### The grant of a probe (R62, R77) -/

theorem exec_probeGrant_of_not_linkFree {s : State} (h : s.linkFree = false) : exec .probeGrant s = .next s := by
  show execProbeGrant s = _
  simp [execProbeGrant, h]

theorem exec_probeGrant_of_nextProbe {s : State} {d : DevNum} {dv : Device} (hfree : s.linkFree = true)
    (hn : s.nextProbe = some d) (hd : s.device d = some dv) :
    exec .probeGrant s = .next ((s.setDevice d dv.reloadTimer).startTxn
      (Txn.granted .probe d dv.params.checkRegister .lossUnit dv.params) .read 0) := by
  show execProbeGrant s = _
  simp [execProbeGrant, hfree, hn, State.grantProbe, hd]

/-! ### The statement -/

/-- Settles O44: where the arbiter can make a grant it serves the search of R62 before the rotation, and where it cannot
every grant is turned away. -/
theorem probesAreGrantedFirst : Obligations.ProbesAreGrantedFirst := by
  refine fun s => ⟨fun level => rfl, fun hbusy => ?_, fun d dv htxn hready hhold hd hdue hlowest => ?_⟩
  · have hfree := State.linkFree_eq_false hbusy
    exact List.forall_mem_cons.mpr ⟨exec_probeGrant_of_not_linkFree hfree,
      exec_of_no_rotationGrant (State.rotationGrant_of_not_linkFree hfree)⟩
  · have hnext : s.nextProbe = some d := by
      refine State.nextProbe_eq_some_iff.mpr ⟨by simp [State.probeDue, hd, hdue], fun e he => ?_⟩
      unfold State.probeDue
      cases hev : s.device e with
      | none => rfl
      | some ev => exact hlowest e ev he hev
    refine ⟨exec_of_no_rotationGrant (State.rotationGrant_of_nextProbe hnext), ?_⟩
    rw [exec_probeGrant_of_nextProbe (State.linkFree_iff.mpr ⟨htxn, hready, hhold⟩) hnext hd]
    rfl

end Sys2Proof.Machine

/-! The device link: the transfers of the manual queues (R63, R70, R71). -/

namespace Sys2Proof.Machine

/-! ### The grant of a manual queue (R63, R70, R71) -/

theorem Rotation.port?_manual (p : Port) : (if p = .h then Rotation.manualH else .manualL).port? = some p := by
  cases p <;> rfl

section
variable {s : State} {p : Port} {x : Transfer} {rest : List Transfer} {dv : Device}

/-- A grant to a port's manual queue is one to the transfer at its head. -/
theorem State.manualGrant_of_head (hg : s.rotationGrant = some (if p = .h then .manualH else .manualL))
    (hm : (s.port p).manual = x :: rest) :
    s.manualGrant = some (if p = .h then .manualH else .manualL, p, x) := by
  simp only [State.manualGrant, hg, Rotation.port?_manual, hm]

/-- The rotation moves past the manual queue granted. -/
theorem State.rotateFrom_manual (s : State) (p : Port) :
    s.rotateFrom (if p = .h then .manualH else .manualL) =
      { s with rotation := if p = .h then .manualL else .pushWalker } := by
  cases p <;> rfl

theorem exec_manualRead_of_head (hg : s.rotationGrant = some (if p = .h then .manualH else .manualL))
    (hm : (s.port p).manual = x :: rest) (hd : s.device x.device = some dv) (hk : x.kind = .readDevice) :
    exec .manualRead s = .next
      (({ s with rotation := if p = .h then .manualL else .pushWalker } : State).startTxn
        (Txn.granted .manualRead x.device x.register (.manual p) dv.params) .read 0) := by
  show execManualRead s = _
  simp only [execManualRead, State.manualGrant_of_head hg hm, hd, hk, State.rotateFrom_manual]

theorem exec_manualWrite_of_head {v : Value} (hg : s.rotationGrant = some (if p = .h then .manualH else .manualL))
    (hm : (s.port p).manual = x :: rest) (hd : s.device x.device = some dv) (hk : x.kind = .rawWrite v) :
    exec .manualWrite s = .next
      (({ s with rotation := if p = .h then .manualL else .pushWalker } : State).startTxn
        (Txn.granted .manualWrite x.device x.register (.manual p) dv.params) .write v) := by
  show execManualWrite s = _
  simp only [execManualWrite, State.manualGrant_of_head hg hm, hd, hk, State.rotateFrom_manual]

end

/-! ### The answer to a manual transfer (R70, R71) -/

/-- One answer for the outstanding requests of a kind: they leave the set, each for its answer. -/
theorem PortSide.answer_ite (P : Outstanding → Prop) [DecidablePred P] (o : OutcomeCode) (pl : Payload) (q : PortSide) :
    q.answer (fun w => if P w then some (o, pl) else none) =
      { q with
        outstanding := q.outstanding.filter fun w => decide (¬ P w)
        responses := q.responses ++ (q.outstanding.filter fun w => decide (P w)).map fun w => ⟨w.tag, o, pl⟩ } := by
  have hstay : ∀ w, (if P w then some (o, pl) else none).isNone = decide (¬ P w) := fun w => by
    by_cases h : P w <;> simp [h]
  simp only [PortSide.answer, hstay, Option.map_if]
  rw [← List.filterMap_eq_map, List.filterMap_filter]
  simp only [decide_eq_true_eq, Function.comp_apply]

theorem State.finishTransfer_of_head {s : State} {p : Port} {x : Transfer} {rest : List Transfer}
    (hm : (s.port p).manual = x :: rest) (o : OutcomeCode) (pl : Payload) :
    s.finishTransfer p o pl =
      { s with
        ports := s.ports.set p
          { s.port p with
            manual := rest
            outstanding := (s.port p).outstanding.filter fun w => decide (¬ (w.wait = .manual ∧ w.tag = x.tag))
            responses := (s.port p).responses ++
              ((s.port p).outstanding.filter fun w => decide (w.wait = .manual ∧ w.tag = x.tag)).map
                fun w => ⟨w.tag, o, pl⟩ } } := by
  simp only [State.finishTransfer, hm, State.answerPort, State.modPort, PerPort.get_set_self, PerPort.set_set,
    PortSide.answer_ite]
  rfl

/-- The end of a transaction that is not the walker's leaves the cursor where it is (R39, R59). -/
theorem State.endTxn_of_not_walker {t : Txn} (h : ¬ (t.kind = .push ∨ t.kind = .marker)) (s : State) :
    s.endTxn t = { s with txn := none, link := none } := by
  rw [State.endTxn, if_neg h]

section
variable {s : State} {t : Txn} {p : Port} {f : LinkFrame}

theorem Txn.port?_of_manual (hq : t.requester = .manual p) : t.port? = some p := by
  simp [Txn.port?, hq]

theorem exec_manualReadFrameEnd_of_good (ht : s.txn = some t) (hl : s.link = some f) (hq : t.requester = .manual p)
    (hk : t.kind = .manualRead) {bits : SampledBits} {v : Value} (hv : readResult bits = some v) :
    exec (.manualReadFrameEnd bits) s = .next ((s.finishTransfer p .ok (.value v)).endTxn t) := by
  show execManualReadFrameEnd bits s = _
  simp [execManualReadFrameEnd, hk ▸ State.frameOf_of_txn ht hl, Txn.port?_of_manual hq, hv]

theorem exec_manualReadFrameEnd_of_error (ht : s.txn = some t) (hl : s.link = some f) (hq : t.requester = .manual p)
    (hk : t.kind = .manualRead) {bits : SampledBits} (hv : readResult bits = none) :
    exec (.manualReadFrameEnd bits) s = .next
      (if t.readsMade + 1 < t.params.retryLimit + 1 then
        { s.endFrame with txn := some { t with readsMade := t.readsMade + 1 } }
      else (s.finishTransfer p .failed .none).endTxn t) := by
  show execManualReadFrameEnd bits s = _
  simp [execManualReadFrameEnd, hk ▸ State.frameOf_of_txn ht hl, Txn.port?_of_manual hq, hv]

theorem exec_manualWriteFrameEnd_of_manual (ht : s.txn = some t) (hl : s.link = some f) (hq : t.requester = .manual p)
    (hk : t.kind = .manualWrite) :
    exec .manualWriteFrameEnd s = .next ((s.finishTransfer p .ok .none).endTxn t) := by
  show execManualWriteFrameEnd s = _
  simp [execManualWriteFrameEnd, hk ▸ State.frameOf_of_txn ht hl, Txn.port?_of_manual hq]

end

/-! ### The statement -/

/-- Settles O46: a grant starts the transfer at the queue's head, and the end of its last frame is the answer of
`State.finishTransfer_of_head` with the end of the transaction. -/
theorem manualTransfersRunAndAreAnswered : Obligations.ManualTransfersRunAndAreAnswered := by
  refine ⟨fun s p x rest dv hg hm hd => ⟨fun hk => ?_, fun v hk => ?_⟩,
    fun s t p x rest f answer ht hl hq hm hanswer => ?_⟩
  · rw [exec_manualRead_of_head hg hm hd hk]
    rfl
  · rw [exec_manualWrite_of_head hg hm hd hk]
    rfl
  · have hend : ∀ o pl, ¬ (t.kind = .push ∨ t.kind = .marker) → (s.finishTransfer p o pl).endTxn t = answer o pl :=
      fun o pl hk => by rw [hanswer, State.finishTransfer_of_head hm, State.endTxn_of_not_walker hk]
    refine ⟨fun hk => ⟨fun v => ?_, fun bits hbits => ⟨fun hmore => ?_, fun hlast => ?_⟩⟩, fun hk => ?_⟩
    · rw [exec_manualReadFrameEnd_of_good ht hl hq hk (readResult_sampleOf v), hend _ _ (by simp [hk])]
    · rw [exec_manualReadFrameEnd_of_error ht hl hq hk hbits, if_pos hmore]
      rfl
    · rw [exec_manualReadFrameEnd_of_error ht hl hq hk hbits, if_neg (Nat.not_lt.mpr hlast), hend _ _ (by simp [hk])]
    · rw [exec_manualWriteFrameEnd_of_manual ht hl hq hk, hend _ _ (by simp [hk])]

end Sys2Proof.Machine

/-! Claims: CLAIM, grants and renewals (R95, R96). -/

namespace Sys2Proof.Machine

section
variable {s : State} {p : Port} {tag b n : Byte} {d : DevNum} {dv : Device} {c : Claim}

/-! ### The request's rule -/

theorem exec_claim_of_takes (h : s.Takes p (.claim b n) tag) :
    exec (.claim p) s = .next (reqClaim p tag b n (s.dequeue p)) :=
  congrArg Host.Outcome.next (State.takeRequest_of_takes h _)

theorem reqClaim_of_zero (hn : s.Names b d dv) : reqClaim p tag b 0 s = s.respond p tag .badRequest .none := by
  simp only [reqClaim, State.findDevice_of_names hn, if_true]

theorem reqClaim_of_held (hn : s.Names b d dv) (hlease : n ≠ 0) (hc : s.claim d = some c) (hh : c.holder ≠ p) :
    reqClaim p tag b n s = s.respond p tag .held .none := by
  simp only [reqClaim, State.findDevice_of_names hn, if_neg hlease, hc, if_pos hh]

theorem reqClaim_of_holder (hn : s.Names b d dv) (hlease : n ≠ 0) (hc : s.claim d = some c) (hh : c.holder = p) :
    reqClaim p tag b n s =
      (s.setClaim d (some { holder := p, lease := n.toNat, elapsed := 0 })).respond p tag .ok .none := by
  subst hh
  simp only [reqClaim, State.findDevice_of_names hn, if_neg hlease, hc, ne_eq, not_true_eq_false, if_false]

theorem reqClaim_of_unclaimed (hn : s.Names b d dv) (hlease : n ≠ 0) (hc : s.claim d = none) :
    reqClaim p tag b n s =
      ((s.setClaim d (some { holder := p, lease := n.toNat, elapsed := 0 })).setLate d p .none).respond p tag .ok .none := by
  simp only [reqClaim, State.findDevice_of_names hn, if_neg hlease, hc]

end

/-! ### The statement -/

/-- Settles O33: the lease operand first, then whose claim there is, if any. -/
theorem claimGrantsOrRenews : Obligations.ClaimGrantsOrRenews := by
  intro s p tag b n d dv ht hn
  have hn' := State.names_dequeue hn p
  rw [exec_claim_of_takes ht, ← State.claim_dequeue s p d, ← State.dequeue_claims s p, ← State.dequeue_late s p]
  refine ⟨fun hzero => ?_, fun hlease => ⟨fun c hc hh => ?_, fun c hc hh => ?_, fun hc => ?_⟩⟩
  · rw [hzero, reqClaim_of_zero hn', State.respond_eq]
  · rw [reqClaim_of_held hn' hlease hc hh, State.respond_eq]
  · rw [reqClaim_of_holder hn' hlease hc hh]
    rfl
  · rw [reqClaim_of_unclaimed hn' hlease hc]
    rfl

end Sys2Proof.Machine

/-! Claims: what the end of a claim leaves, ABANDON, and the late marks (R99, R102, R120). -/

namespace Sys2Proof.Machine

/-! ### The end of a claim (R100, R102, R120) -/

theorem State.undefer_eq_map (s : State) (d : DevNum) :
    s.undefer d =
      { s with profiles := { s.profiles with
          transition := s.profiles.transition.map fun t => { t with deferred := t.deferred.set d false } } } := by
  cases h : s.profiles.transition with
  | none =>
    simp only [State.undefer, h, Option.map_none]
    rw [← h]
  | some t => simp only [State.undefer, h, Option.map_some]

theorem Device.unappliedBy_eq (put : Entry → Entry) (P : Profile) (dv : Device) :
    dv.unappliedBy put P =
      if dv.state = .fenced then
        (dv.entries.filter fun e => decide
          ((put e).desired P ≠ e.desired dv.profile ∧ (put e).desired P ≠ (put e).desired dv.profile)).length
      else 0 := by
  simp only [Device.unappliedBy, List.countP_eq_length_filter, Bool.decide_and]
  rfl

section
variable (s : State) (d : DevNum) (dv : Device) (put : Entry → Entry)

/-- The record of a device whose claim has ended, as the end of the claim leaves it before the completion test. -/
theorem State.reexamine_endClaim (P : Profile) :
    ((s.setClaim d none).setDevice d (dv.change put P)).reexamine d =
      { s with
        claims := s.claims.set d none
        devices := s.devices.set d (some ((dv.change put P).reexamine (s.markerGranted d))) } := by
  rw [State.reexamine_setDevice]
  rfl

/-- The engine's end of a claim is the one that the statements about claims describe. -/
theorem State.endClaim_eq_claimEnded {s : State} {d : DevNum} {dv : Device} (hd : s.device d = some dv)
    (put : Entry → Entry) : s.endClaim d put = s.claimEnded d dv put := by
  simp only [State.endClaim, hd, State.reexamine_endClaim, State.profileAfterClaim, State.claimEnded]
  by_cases hdef : s.deferred d = true
  · simp only [hdef, if_true, State.undefer_eq_map, State.addUnapplied_eq_counting, ProfileController.counting,
      Option.map_map, Device.unappliedBy_eq]
    rfl
  · simp only [hdef]
    rfl

theorem State.devices_claimEnded :
    (s.claimEnded d dv put).devices = s.devices.set d (some
      ((dv.change put (s.profileAfterClaim d dv)).reexamine (s.markerGranted d))) := by
  unfold State.claimEnded State.profileAfterClaim
  split
  · rw [State.completionTest_devices]
    rfl
  · rfl

theorem State.claims_claimEnded : (s.claimEnded d dv put).claims = s.claims.set d none := by
  unfold State.claimEnded
  split
  · rw [State.completionTest_claims]
  · rfl

theorem State.deferred_of_transition_none {s : State} (h : s.profiles.transition = none) (d : DevNum) :
    s.deferred d = false := by
  simp only [State.deferred, h]

/-- The completion test defers no device: it leaves the transition or removes it (R121). -/
theorem State.deferred_completionTest {s : State} {d : DevNum} (h : s.deferred d = false) :
    s.completionTest.deferred d = false := by
  rcases State.completionTest_transition s with hkept | hgone
  · rwa [State.deferred, hkept]
  · exact State.deferred_of_transition_none (by rw [hgone]) d

theorem State.deferred_claimEnded : (s.claimEnded d dv put).deferred d = false := by
  unfold State.claimEnded
  split
  · refine State.deferred_completionTest ?_
    cases h : s.profiles.transition <;> simp [State.deferred]
  next hdef => exact eq_false_of_ne_true hdef

variable {s d}

/-- Without a deferred switch the end of a claim leaves the profile controller as it is. -/
theorem State.profiles_claimEnded_of_not_deferred (h : s.deferred d = false) :
    (s.claimEnded d dv put).profiles = s.profiles := by
  simp [State.claimEnded, h]

/-- Without a deferred switch the end of a claim answers nothing. -/
theorem State.ports_claimEnded_of_not_deferred (h : s.deferred d = false) :
    (s.claimEnded d dv put).ports = s.ports := by
  simp [State.claimEnded, h]

end

/-! ### The requests' rules (R99, R102) -/

section
variable {s : State} {p : Port} {tag b : Byte} {wait : Bool} {d : DevNum} {dv : Device} {c : Claim}

theorem exec_commit_of_takes (h : s.Takes p (.commit b wait) tag) :
    exec (.commit p) s = .next (reqCommit p tag b wait (s.dequeue p)) :=
  congrArg Host.Outcome.next (State.takeRequest_of_takes h _)

theorem exec_abandon_of_takes (h : s.Takes p (.abandon b) tag) :
    exec (.abandon p) s = .next (reqAbandon p tag b (s.dequeue p)) :=
  congrArg Host.Outcome.next (State.takeRequest_of_takes h _)

theorem State.holds_iff : s.holds p d = true ↔ ∃ c, s.claim d = some c ∧ c.holder = p := by
  unfold State.holds
  cases s.claim d <;> simp

theorem State.holds_eq_false (h : ∀ c, s.claim d = some c → c.holder ≠ p) : s.holds p d = false :=
  eq_false_of_ne_true fun hholds => by
    obtain ⟨c, hc, hh⟩ := State.holds_iff.mp hholds
    exact h c hc hh

theorem reqAbandon_of_holder (hn : s.Names b d dv) (hh : s.holds p d = true) :
    reqAbandon p tag b s = (s.claimEnded d dv Entry.clearStaged).respond p tag .ok .none := by
  simp only [reqAbandon, State.findDevice_of_names hn, hh, if_true, State.endClaim_eq_claimEnded hn.2]

theorem reqAbandon_of_not_holder (hn : s.Names b d dv) (hh : s.holds p d = false) :
    reqAbandon p tag b s = s.notHolder p tag d := by
  simp [reqAbandon, State.findDevice_of_names hn, hh]

theorem reqCommit_of_not_holder (hn : s.Names b d dv) (hh : s.holds p d = false) :
    reqCommit p tag b wait s = s.notHolder p tag d := by
  simp [reqCommit, State.findDevice_of_names hn, hh]

/-- COMMIT and ABANDON are turned away alike where the port does not hold the claim (R99). -/
theorem exec_of_not_holder {k : Instr}
    (hk : (∃ wait, s.Takes p (.commit b wait) tag ∧ k = .commit p) ∨ (s.Takes p (.abandon b) tag ∧ k = .abandon p))
    (hn : s.Names b d dv) (hh : ∀ c, s.claim d = some c → c.holder ≠ p) :
    exec k s = .next ((s.dequeue p).notHolder p tag d) := by
  have hn' := State.names_dequeue hn p
  have hholds : (s.dequeue p).holds p d = false := by
    rw [State.holds_dequeue]
    exact State.holds_eq_false hh
  rcases hk with ⟨wait, ht, rfl⟩ | ⟨ht, rfl⟩
  · rw [exec_commit_of_takes ht, reqCommit_of_not_holder hn' hholds]
  · rw [exec_abandon_of_takes ht, reqAbandon_of_not_holder hn' hholds]

/-! ### The late mark (R99 checks 3 to 5) -/

theorem State.notHolder_of_expired (h : s.lateMark d p = .expired) :
    s.notHolder p tag d = (s.setLate d p .none).respond p tag .expired .none := by
  simp only [State.notHolder, h]

theorem State.notHolder_of_broken (h : s.lateMark d p = .broken) :
    s.notHolder p tag d = (s.setLate d p .none).respond p tag .broken .none := by
  simp only [State.notHolder, h]

theorem State.notHolder_of_claimed (h : s.lateMark d p = .none) (hc : (s.claim d).isSome = true) :
    s.notHolder p tag d = s.respond p tag .held .none := by
  simp only [State.notHolder, h, State.claimed, hc, if_true]

theorem State.notHolder_of_unclaimed (h : s.lateMark d p = .none) (hc : s.claim d = none) :
    s.notHolder p tag d = s.respond p tag .wrongState .none := by
  simp [State.notHolder, h, State.claimed, hc]

end

/-! ### The statement -/

/-- Settles O35: ABANDON by the holder through `State.claimEnded`, and every other port through its late mark. -/
theorem abandonDiscardsAndLateMarksAnswerOnce : Obligations.AbandonDiscardsAndLateMarksAnswerOnce := by
  refine ⟨fun s p tag b d dv c put eff ht hn hc hh hput heff v hv => ?_, fun s p tag b d dv k hk hn hh => ?_⟩
  · obtain rfl : put = Entry.clearStaged := funext hput
    have hholds : (s.dequeue p).holds p d = true := by
      rw [State.holds_dequeue]
      exact State.holds_iff.mpr ⟨c, hc, hh⟩
    subst hv heff
    rw [exec_abandon_of_takes ht, reqAbandon_of_holder (State.names_dequeue hn p) hholds, State.respond_eq,
      State.devices_claimEnded, State.claims_claimEnded, State.deferred_claimEnded, State.dequeue_devices,
      State.dequeue_claims, State.markerGranted_dequeue, State.profileAfterClaim, State.deferred_dequeue,
      State.dequeue_profiles]
    refine ⟨rfl, rfl, rfl, rfl, fun hdef => ?_⟩
    have hdef' := (State.deferred_dequeue s p d).trans hdef
    rw [State.profiles_claimEnded_of_not_deferred dv _ hdef', State.ports_claimEnded_of_not_deferred dv _ hdef']
    refine ⟨State.dequeue_profiles s p, rfl, fun e _ => Entry.change_of_desired_eq ?_⟩
    rw [hdef]
    rfl
  · rw [exec_of_not_holder hk hn hh, ← State.lateMark_dequeue s p p d, ← State.claim_dequeue s p d,
      ← State.dequeue_late s p]
    refine ⟨fun hlate => ?_, fun hlate => ?_, fun hlate hc => ?_, fun hlate hc => ?_⟩
    · rw [State.notHolder_of_expired hlate]
      rfl
    · rw [State.notHolder_of_broken hlate]
      rfl
    · rw [State.notHolder_of_claimed hlate hc, State.respond_eq]
    · rw [State.notHolder_of_unclaimed hlate hc, State.respond_eq]

end Sys2Proof.Machine

/-! Requests, responses and notices: READ_STATUS, the notice requests, and what a posting does to a list (R134 to R145). -/

namespace Sys2Proof.Machine

/-! ### READ_STATUS (R134 to R136) -/

theorem sumDevices_eq_sum (f : DevNum → Nat) : sumDevices f = (devNums.map f).sum := by
  simp [sumDevices, devNums, Nat.add_assoc]

/-- The hub form, with the pool count as a sum over the list of device numbers. -/
theorem State.hubForm_eq (s : State) :
    s.hubForm =
      { s.hubForm with
        poolInUse := (devNums.map fun d => match s.device d with
          | some dv => dv.entries.length
          | none => 0).sum } :=
  congrArg (fun n => { s.hubForm with poolInUse := n }) (sumDevices_eq_sum _)

theorem Entry.isApplied_iff {e : Entry} : e.isApplied = true ↔ e.state = .applied := by
  cases h : e.state <;> simp [Entry.isApplied, h]

theorem countP_isPending_eq (es : List Entry) :
    es.countP Entry.isPending = (es.filter fun e => decide (e.state = .pending)).length := by
  simp [List.countP_eq_length_filter, ← Entry.isPending_iff]

theorem countP_isApplied_eq (es : List Entry) :
    es.countP Entry.isApplied = (es.filter fun e => decide (e.state = .applied)).length := by
  simp [List.countP_eq_length_filter, ← Entry.isApplied_iff]

/-- The take that READ_STATUS is part of shows in neither form. -/
@[simp] theorem State.hubForm_dequeue (s : State) (p : Port) : (s.dequeue p).hubForm = s.hubForm := by
  simp [State.hubForm]

@[simp] theorem State.deviceForm_dequeue (s : State) (p : Port) (d : DevNum) (dv : Device) :
    (s.dequeue p).deviceForm d dv = s.deviceForm d dv := by
  simp [State.deviceForm]

section
variable {s : State} {p : Port} {tag b : Byte}

theorem reqReadStatus_of_hub : reqReadStatus p tag 255 s = s.respond p tag .ok (.hub s.hubForm) := if_pos rfl

theorem reqReadStatus_of_none (hb : b ≠ 255) (hn : ∀ d dv, ¬ s.Names b d dv) :
    reqReadStatus p tag b s = s.respond p tag .notFound .none := by
  simp only [reqReadStatus, if_neg hb, State.findDevice_eq_none hn]

theorem reqReadStatus_of_names {d : DevNum} {dv : Device} (hn : s.Names b d dv) :
    reqReadStatus p tag b s = s.respond p tag .ok (.device (s.deviceForm d dv)) := by
  have hb : b ≠ 255 := by
    rintro rfl
    exact absurd (hn.1.symm ▸ d.isLt) (by decide)
  simp only [reqReadStatus, if_neg hb, State.findDevice_of_names hn]

/-! ### The notice requests (R142 to R144) -/

/-- A change to a port with the answer of the request that makes it. -/
theorem State.respond_modPort (s : State) (p : Port) (f : PortSide → PortSide) (tag : Byte) (o : OutcomeCode)
    (pl : Payload) :
    (s.modPort p f).respond p tag o pl =
      { s with
        ports := s.ports.set p
          { f (s.port p) with responses := (f (s.port p)).responses ++ [⟨tag, o, pl⟩] } } := by
  simp only [State.respond, State.modPort, PerPort.get_set_self, PerPort.set_set]
  rfl

theorem State.port_set_port_self (s : State) (p : Port) (q : PortSide) :
    State.port { s with ports := s.ports.set p q } p = q :=
  PerPort.get_set_self s.ports p q

theorem State.port_set_port_other (s : State) (p : Port) (q : PortSide) :
    State.port { s with ports := s.ports.set p q } (otherPort p) = s.port (otherPort p) :=
  PerPort.get_set_other s.ports p q

/-- More notices remain than one response carries exactly when the drained list is not empty. -/
theorem decide_lt_length_eq_not_isEmpty_drop {α : Type} (n : Nat) (l : List α) :
    decide (n < l.length) = !(l.drop n).isEmpty := by
  rw [Bool.eq_iff_iff]
  simp

theorem reqReadNotices_eq (s : State) (p : Port) (tag : Byte) :
    reqReadNotices p tag s =
      { s with
        ports := s.ports.set p
          { s.port p with
            notices := (s.port p).notices.drop 8
            lost := false
            responses := (s.port p).responses ++
              [⟨tag, .ok,
                .notices ((s.port p).notices.take 8) (!((s.port p).notices.drop 8).isEmpty) (s.port p).lost⟩] } } := by
  rw [reqReadNotices, State.respond_modPort, PortSide.noticePayload, decide_lt_length_eq_not_isEmpty_drop]
  rfl

theorem reqSetNoticeMask_eq (s : State) (p : Port) (tag : Byte) (mask : BitVec 10) :
    reqSetNoticeMask p tag mask s =
      { s with
        ports := s.ports.set p
          { s.port p with mask := mask ||| 1, responses := (s.port p).responses ++ [⟨tag, .ok, .none⟩] } } :=
  State.respond_modPort s p _ tag .ok .none

theorem reqSetAttention_eq (s : State) (p : Port) (tag : Byte) (x y : Bool) :
    reqSetAttention p tag x y s =
      { s with
        ports := s.ports.set p
          { s.port p with
            responseEnable := x
            noticeEnable := y
            responses := (s.port p).responses ++ [⟨tag, .ok, .none⟩] } } :=
  State.respond_modPort s p _ tag .ok .none

/-! ### The attention output (R145) -/

theorem State.attention_set_port (s : State) (p : Port) (q : PortSide) :
    State.attention { s with ports := s.ports.set p q } p =
      (s.ready && ((q.responseEnable && !q.responses.isEmpty) || (q.noticeEnable && !q.notices.isEmpty))) := by
  rw [State.attention, State.port_set_port_self]
  rfl

theorem State.canTake_of_nextTake (h : s.nextTake = some p) : s.canTake p = true := by
  unfold State.nextTake at h
  split at h
  next hfirst => exact Option.some.inj h ▸ hfirst
  next =>
    split at h
    next hother => exact Option.some.inj h ▸ hother
    next => cases h

/-- A take comes about in READY alone (R127). -/
theorem State.ready_of_nextTake (h : s.nextTake = some p) : s.ready = true := by
  have hcan := State.canTake_of_nextTake h
  simp only [State.canTake, Bool.and_eq_true] at hcan
  exact hcan.1.1

@[simp] theorem State.ready_dequeue (s : State) (p : Port) : (s.dequeue p).ready = s.ready := by
  simp [State.ready]

/-! ### The commands -/

theorem exec_readStatus_of_takes (h : s.Takes p (.readStatus b) tag) :
    exec (.readStatus p) s = .next (reqReadStatus p tag b (s.dequeue p)) :=
  congrArg Host.Outcome.next (State.takeRequest_of_takes h _)

theorem exec_readNotices_of_takes (h : s.Takes p .readNotices tag) :
    exec (.readNotices p) s = .next (reqReadNotices p tag (s.dequeue p)) :=
  congrArg Host.Outcome.next (State.takeRequest_of_takes h _)

theorem exec_setNoticeMask_of_takes {mask : BitVec 10} (h : s.Takes p (.setNoticeMask mask) tag) :
    exec (.setNoticeMask p) s = .next (reqSetNoticeMask p tag mask (s.dequeue p)) :=
  congrArg Host.Outcome.next (State.takeRequest_of_takes h _)

theorem exec_setAttention_of_takes {x y : Bool} (h : s.Takes p (.setAttention x y) tag) :
    exec (.setAttention p) s = .next (reqSetAttention p tag x y (s.dequeue p)) :=
  congrArg Host.Outcome.next (State.takeRequest_of_takes h _)

end

/-! ### Posting a notice (R138 to R140) -/

theorem maskAdmits_iff (mask : BitVec 10) (k : NoticeKind) :
    maskAdmits mask k = true ↔ k = .started ∨ mask.getLsbD (k.code - 1) = true := by
  cases k <;> simp [maskAdmits]

theorem Notice.sameKey_eq (n m : Notice) : n.sameKey m = decide (m.kind = n.kind ∧ m.device = n.device) := by
  simp only [Notice.sameKey, Bool.decide_and, eq_comm]

section
variable {q : PortSide} {n : Notice}

theorem PortSide.post_of_masked (h : maskAdmits q.mask n.kind = false) : q.post n = q := by
  simp [PortSide.post, h]

theorem PortSide.post_of_coalesces (ha : maskAdmits q.mask n.kind = true)
    (hm : ∃ m ∈ q.notices, m.kind = n.kind ∧ m.device = n.device) :
    q.post n = { q with
      notices := q.notices.map fun m => if m.kind = n.kind ∧ m.device = n.device then n else m } := by
  have hany : q.notices.any n.sameKey = true := by simpa [Notice.sameKey_eq] using hm
  simp only [PortSide.post, ha, hany, if_true, Notice.sameKey_eq, decide_eq_true_eq]

/-- A notice that coalesces with none joins the tail of the list or, where the list is full, sets the lost mark. -/
theorem PortSide.post_of_new (ha : maskAdmits q.mask n.kind = true)
    (hm : ∀ m ∈ q.notices, ¬ (m.kind = n.kind ∧ m.device = n.device)) :
    q.post n = if q.notices.length < 16 then { q with notices := q.notices ++ [n] } else { q with lost := true } := by
  have hany : q.notices.any n.sameKey = false := by simpa [Notice.sameKey_eq] using hm
  simp [PortSide.post, ha, hany]

end

/-! ### The statements -/

/-- Settles O18: by the mask, then by whether the list holds a notice of the same kind and device. -/
theorem noticesCoalesceOrJoinOrAreLost : Obligations.NoticesCoalesceOrJoinOrAreLost := fun q n =>
  ⟨maskAdmits_iff q.mask n.kind, PortSide.post_of_masked, fun ha =>
    ⟨PortSide.post_of_coalesces ha, fun hm =>
      ⟨fun hroom => (PortSide.post_of_new ha hm).trans (if_pos hroom),
        fun hfull => (PortSide.post_of_new ha hm).trans (if_neg (Nat.not_lt.mpr hfull))⟩⟩⟩

/-- Settles O16: the forms are those of the state before the take, which touches nothing that they report. -/
theorem readStatusReportsTheStandingState : Obligations.ReadStatusReportsTheStandingState := by
  intro s p tag b ht
  rw [exec_readStatus_of_takes ht]
  refine ⟨fun hb => ?_, fun hb hn => ?_, fun d dv hn => ?_⟩
  · rw [hb, reqReadStatus_of_hub, State.respond_eq, State.hubForm_dequeue, State.hubForm_eq]
    rfl
  · have hn' : ∀ d dv, ¬ (s.dequeue p).Names b d dv := fun d dv h =>
      hn d dv ⟨h.1, (State.device_dequeue s p d).symm.trans h.2⟩
    rw [reqReadStatus_of_none hb hn', State.respond_eq]
  · rw [reqReadStatus_of_names (State.names_dequeue hn p), State.respond_eq, State.deviceForm_dequeue, State.deviceForm,
      countP_isPending_eq, List.countP_eq_length_filter, countP_isApplied_eq, Device.failedCount_eq]

/-- Settles O17: READ_NOTICES cuts the list after its first 8 notices; the two settings are one change of the port with
its answer, on which the attention output is judged. -/
theorem noticeRequestsShapeAndDrain : Obligations.NoticeRequestsShapeAndDrain := by
  refine ⟨fun s p tag ht => ?_, fun s p tag => ⟨fun mask ht => ?_, fun x y ht => ?_⟩⟩
  · refine ⟨_, exec_readNotices_of_takes ht, ?_⟩
    rw [reqReadNotices_eq, State.port_set_port_self, State.port_set_port_other, State.dequeue_notices,
      State.dequeue_responses, State.dequeue_lost]
    exact ⟨rfl, rfl, _, (List.take_append_drop 8 _).symm, List.length_take, rfl⟩
  · rw [exec_setNoticeMask_of_takes ht, reqSetNoticeMask_eq, State.dequeue_responses]
  · rw [exec_setAttention_of_takes ht, reqSetAttention_eq, State.dequeue_responses]
    refine ⟨rfl, fun t hnext => ?_⟩
    obtain rfl := Host.Outcome.next.inj hnext
    have hanswer : ((s.port p).responses ++ [(⟨tag, .ok, .none⟩ : Response)]).isEmpty = false :=
      List.isEmpty_eq_false_iff.mpr (List.concat_ne_nil _ _)
    rw [State.attention_set_port, State.ready_dequeue, State.ready_of_nextTake ht.1, State.dequeue_notices]
    simp [hanswer]

end Sys2Proof.Machine

/-! Port L's outbound half: the load of the outbound latch and the edges of LACK#. -/

namespace Sys2Proof.Machine

theorem State.ready_iff (s : State) : s.ready = true ↔ s.hubState = .ready := decide_eq_true_iff

theorem State.ready_eq_false_iff (s : State) : s.ready = false ↔ s.hubState ≠ .ready := decide_eq_false_iff_not

section
variable {s : State} {r : Response} {rest : List Response} {k : Nat}

/-! ### The load of the outbound latch (R168) -/

theorem execOutboundLatchLoad_of_no_condition
    (h : s.ready = false ∨ s.portL.outFull = true ∨ (s.port .l).responses = []) :
    execOutboundLatchLoad s = .next s := by
  unfold execOutboundLatchLoad
  rcases h with hready | hfull | hempty
  · rw [hready, Bool.false_and]
  · rw [hfull, Bool.not_true, Bool.and_false]
  · rw [hempty]
    cases s.ready && !s.portL.outFull <;> rfl

theorem execOutboundLatchLoad_of_head (hready : s.ready = true) (hfull : s.portL.outFull = false)
    (hhead : (s.port .l).responses = r :: rest) :
    execOutboundLatchLoad s = .next (s.setPortL { s.portL with
      outLatch := r.byteAt (s.portL.cursor.getD 0), outFull := true, cursor := some (s.portL.cursor.getD 0) }) := by
  simp only [execOutboundLatchLoad, hready, hfull, hhead, Bool.not_false, Bool.and_self]

theorem Response.byteAt_of_getElem? {b : Byte} (h : r.bytes[k]? = some b) : r.byteAt k = b := by
  rw [Response.byteAt, List.getD_eq_getElem?_getD, h, Option.getD_some]

theorem State.lobf_setPortL (s : State) (q : PortL) : (s.setPortL q).lobf = (s.ready && q.outFull) := rfl

theorem State.ldDriven_setPortL (s : State) (q : PortL) :
    (s.setPortL q).ldDriven = if s.ready && s.inputs.lack then some q.outLatch else none := rfl

/-! ### The rising edge of LACK# (R169) -/

theorem execLackRise_of_nothing_latched (h : s.ready = false ∨ s.portL.outFull = false) :
    execLackRise s = .next (s.setLack false) :=
  congrArg Host.Outcome.next (if_neg (by rcases h with h | h <;> simp [h]))

theorem execLackRise_of_latched (hready : s.ready = true) (hfull : s.portL.outFull = true) :
    execLackRise s = .next (s.setLack false).consumed :=
  congrArg Host.Outcome.next (if_pos (Bool.and_eq_true_iff.mpr ⟨hready, hfull⟩))

theorem State.consumed_of_more (hhead : (s.port .l).responses = r :: rest) (hcur : s.portL.cursor = some k)
    (hlen : k + 1 < r.bytes.length) :
    s.consumed = s.setPortL { s.portL with outFull := false, cursor := some (k + 1) } := by
  simp only [State.consumed, hhead, hcur, Option.getD_some, if_pos hlen]

theorem State.consumed_of_last (hhead : (s.port .l).responses = r :: rest) (hcur : s.portL.cursor = some k)
    (hlen : k + 1 = r.bytes.length) :
    s.consumed = (s.setPortL { s.portL with outFull := false, cursor := none }).modPort .l
      fun q => { q with responses := rest } := by
  simp only [State.consumed, hhead, hcur, Option.getD_some, hlen, lt_irrefl, if_false]

end

/-- Settles O60: a load is judged on R168's condition, and a rising edge on whether a byte is latched and whether it is
the last of the head response. -/
theorem portLSendsTheHeadResponse : Obligations.PortLSendsTheHeadResponse := by
  intro s
  refine ⟨fun h => ?_, fun r rest k b hhub hfull hhead hk hb => ?_, rfl, fun h => ?_,
    fun r rest k hhub hfull hhead hcur => ?_⟩
  · exact execOutboundLatchLoad_of_no_condition (h.imp_left s.ready_eq_false_iff.mpr)
  · have hready := s.ready_iff.mpr hhub
    have hload : exec .outboundLatchLoad s =
        .next (s.setPortL { s.portL with outLatch := b, outFull := true, cursor := some k }) := by
      rw [← Response.byteAt_of_getElem? hb, hk]
      exact execOutboundLatchLoad_of_head hready hfull hhead
    refine ⟨hload, fun t hnext => ?_⟩
    obtain rfl := Host.Outcome.next.inj (hload.symm.trans hnext)
    rw [State.lobf_setPortL, State.ldDriven_setPortL, hready]
    exact ⟨rfl, fun hlack => if_pos hlack⟩
  · exact execLackRise_of_nothing_latched (h.imp_left s.ready_eq_false_iff.mpr)
  · have hrise : exec .lackRise s = .next (s.setLack false).consumed :=
      execLackRise_of_latched (s.ready_iff.mpr hhub) hfull
    refine ⟨fun hmore => ?_, fun hlast => ?_⟩
    · rw [hrise, State.consumed_of_more (s := s.setLack false) hhead hcur hmore]
      rfl
    · rw [hrise, State.consumed_of_last (s := s.setLack false) hhead hcur hlast]
      rfl

end Sys2Proof.Machine

/-! Saves: the choice of the bank, the take of SAVE_IMAGE and SAVE_END. -/

namespace Sys2Proof.Machine

/-! ### The banks (R177, R182) -/

theorem State.setBank_eq (i : BankId) (x : Bank) (s : State) :
    s.setBank i x = { s with bankA := if i = .a then x else s.bankA, bankB := if i = .b then x else s.bankB } := by
  cases i <;> rfl

/-- A save writes the bank that the start steps would not select, with the sequence after the newest. -/
theorem chooseBank_of_selectBank {a b : Bank} {j : BankId} {m : Nat} {x : Snapshot}
    (h : selectBank a b = some (j, m, x)) : (chooseBank a b).1 ≠ j ∧ (chooseBank a b).2 = m + 1 := by
  cases a with
  | invalid =>
    cases b with
    | invalid => cases h
    | valid n y =>
      cases h
      exact ⟨BankId.noConfusion, rfl⟩
  | valid k z =>
    cases b with
    | invalid =>
      cases h
      exact ⟨BankId.noConfusion, rfl⟩
    | valid n y =>
      by_cases hlt : k < n
      · obtain ⟨rfl, rfl, -⟩ : .b = j ∧ n = m ∧ y = x := by simpa [selectBank, hlt] using h
        simp [chooseBank, hlt]
      · obtain ⟨rfl, rfl, -⟩ : .a = j ∧ k = m ∧ z = x := by simpa [selectBank, hlt] using h
        simp [chooseBank, hlt]

theorem selectBank_eq_none {a b : Bank} (h : selectBank a b = none) : a = .invalid ∧ b = .invalid := by
  cases a with
  | invalid =>
    cases b with
    | invalid => exact ⟨rfl, rfl⟩
    | valid n y => cases h
  | valid k z =>
    cases b with
    | invalid => cases h
    | valid n y =>
      rw [selectBank] at h
      split at h <;> cases h

theorem chooseBank_of_none {a b : Bank} (h : selectBank a b = none) : chooseBank a b = (.a, 1) := by
  obtain ⟨rfl, rfl⟩ := selectBank_eq_none h
  rfl

theorem State.sequenceSpent_iff {s : State} :
    s.sequenceSpent = true ↔ ∃ i n x, selectBank s.bankA s.bankB = some (i, n, x) ∧ n = Config.lastSequence := by
  unfold State.sequenceSpent
  cases selectBank s.bankA s.bankB with
  | none => simp
  | some c =>
    obtain ⟨i, n, x⟩ := c
    simp

/-! ### SAVE_IMAGE (R181, R182) -/

theorem State.capFull_iff {s : State} {p : Port} : s.capFull p = true ↔ s.full p := decide_eq_true_iff

@[simp] theorem State.sequenceSpent_dequeue (s : State) (p : Port) : (s.dequeue p).sequenceSpent = s.sequenceSpent := by
  simp [State.sequenceSpent]

@[simp] theorem State.snapshot_dequeue (s : State) (p : Port) : (s.dequeue p).snapshot = s.snapshot := by
  simp [State.snapshot]

theorem State.startSave_dequeue (s : State) (p : Port) :
    (s.dequeue p).startSave =
      { s.dequeue p with
        bankA := if (chooseBank s.bankA s.bankB).1 = .a then .invalid else s.bankA
        bankB := if (chooseBank s.bankA s.bankB).1 = .b then .invalid else s.bankB
        save :=
          { s.save with
            phase := .writing
            record := some
              { bank := (chooseBank s.bankA s.bankB).1, sequence := (chooseBank s.bankA s.bankB).2
                snapshot := s.snapshot } } } := by
  simp only [State.startSave, State.setBank_eq, State.snapshot_dequeue, State.dequeue_bankA, State.dequeue_bankB,
    State.dequeue_save]

section
variable {s : State} {p : Port} {tag : Byte}

theorem exec_saveImage_of_takes (h : s.Takes p .saveImage tag) :
    exec (.saveImage p) s = .next (reqSaveImage p tag (s.dequeue p)) :=
  congrArg Host.Outcome.next (State.takeRequest_of_takes h _)

theorem reqSaveImage_of_writing (h : s.save.phase = .writing) :
    reqSaveImage p tag s = s.respond p tag .busy .none := if_pos h

theorem reqSaveImage_of_spent (h : s.save.phase ≠ .writing) (hs : s.sequenceSpent = true) :
    reqSaveImage p tag s = s.respond p tag .failed .none := by
  rw [reqSaveImage, if_neg h, if_pos hs]

theorem reqSaveImage_of_full (h : s.save.phase ≠ .writing) (hs : ¬ s.sequenceSpent = true) (hf : s.capFull p = true) :
    reqSaveImage p tag s = s.respond p tag .busy .none := by
  rw [reqSaveImage, if_neg h, if_neg hs, if_pos hf]

theorem reqSaveImage_of_room (h : s.save.phase ≠ .writing) (hs : ¬ s.sequenceSpent = true) (hf : ¬ s.capFull p = true) :
    reqSaveImage p tag s = s.startSave.await p ⟨tag, .saveImage, .save⟩ := by
  rw [reqSaveImage, if_neg h, if_neg hs, if_neg hf]

end

/-! ### SAVE_END (R183) -/

theorem exec_saveEnd_of_writing {s : State} {r : SaveRecord} (hw : s.save.phase = .writing) (hr : s.save.record = some r)
    (ok : Bool) :
    exec (.saveEnd ok) s =
      .next ((s.setBank r.bank (if ok then .valid r.sequence r.snapshot else .invalid)).closeSave ok r.sequence) := by
  change execSaveEnd ok s = _
  simp only [execSaveEnd, hw, hr]

/-- Each port answers the SAVE_IMAGE that waits on the save, and no other request. -/
theorem PortSide.answer_saveAnswer (ok : Bool) (n : Nat) (q : PortSide) :
    q.answer (saveAnswer ok n) =
      { q with
        outstanding := q.outstanding.filter fun o => decide (o.wait ≠ .save)
        responses := q.responses ++ (q.outstanding.filter fun o => decide (o.wait = .save)).map fun o =>
          if ok then ⟨o.tag, .ok, .sequence n⟩ else ⟨o.tag, .failed, .none⟩ } := by
  cases ok with
  | true => exact PortSide.answer_ite (fun o => o.wait = .save) .ok (.sequence n) q
  | false => exact PortSide.answer_ite (fun o => o.wait = .save) .failed .none q

/-- The answer precedes the notice on each port, as R183 orders them. -/
theorem State.closeSave_eq (ok : Bool) (n : Nat) (s : State) :
    s.closeSave ok n =
      { s with
        save := { phase := .idle, record := none, lastOutcome := if ok then .ok else .failed, lastSequence := n }
        ports := s.eachPort fun q => (q.answer (saveAnswer ok n)).post (.saveDone ok n) } := rfl

/-! ### The statement -/

/-- Settles O39: SAVE_IMAGE by R181's checks in their order, then the save on the bank that `chooseBank` gives; SAVE_END
through `State.closeSave`. -/
theorem savesTakeASnapshotAndEnd : Obligations.SavesTakeASnapshotAndEnd := by
  refine ⟨fun s tag ht => ?_, fun s r verified hw hr => ?_⟩
  · have hphase : (s.dequeue .h).save.phase = s.save.phase := congrArg SaveUnit.phase (State.dequeue_save s .h)
    have hspent := State.sequenceSpent_iff (s := s)
    have hfull := State.capFull_iff (s := s) (p := .h)
    rw [← State.sequenceSpent_dequeue s .h] at hspent
    rw [← State.capFull_dequeue s .h .h] at hfull
    rw [exec_saveImage_of_takes ht, ← hphase]
    refine ⟨fun hw => ?_, fun hw => ⟨fun hlast => ?_, fun hbelow => ?_⟩⟩
    · rw [reqSaveImage_of_writing hw, State.respond_eq]
    · rw [reqSaveImage_of_spent hw (hspent.mpr hlast), State.respond_eq]
    · have hs : ¬ (s.dequeue .h).sequenceSpent = true := fun h => by
        obtain ⟨i, n, x, hsel, hn⟩ := hspent.mp h
        exact hbelow i n x hsel hn
      refine ⟨fun hf => ?_, fun hf => ⟨(chooseBank s.bankA s.bankB).1, (chooseBank s.bankA s.bankB).2, ?_, ?_, ?_⟩⟩
      · rw [reqSaveImage_of_full hw hs (hfull.mpr hf), State.respond_eq]
      · rw [reqSaveImage_of_room hw hs (mt hfull.mp hf), State.startSave_dequeue, State.await_eq]
        rfl
      · exact fun j m x hsel => chooseBank_of_selectBank hsel
      · exact fun hsel => Prod.ext_iff.mp (chooseBank_of_none hsel)
  · rw [exec_saveEnd_of_writing hw hr, State.setBank_eq, State.closeSave_eq]
    simp only [PortSide.answer_saveAnswer]
    rfl

end Sys2Proof.Machine

/-! Request frames: the validation of R190 by length and zero fields, and the steps of R128 that judge a frame. -/

namespace Sys2Proof.Machine

/-! ### Flag bytes and the notice mask (R190 case 4) -/

theorem byte_and_FE_eq_zero_iff (b : Byte) : b &&& 0xFE = 0 ↔ b = 0 ∨ b = 1 := by
  revert b
  decide

theorem byte_and_FC_eq_zero_iff (b : Byte) : b &&& 0xFC = 0 ↔ b.toNat < 4 := by
  revert b
  decide

theorem flag1_isSome_iff (b : Byte) : (flag1 b).isSome = true ↔ b &&& 0xFE = 0 := by
  rw [byte_and_FE_eq_zero_iff]
  by_cases h : b = 0 ∨ b = 1
  · rcases h with rfl | rfl <;> decide
  · obtain ⟨h0, h1⟩ := not_or.mp h
    rw [flag1, if_neg h0, if_neg h1]
    exact iff_of_false Bool.false_ne_true h

theorem flag2_isSome_iff (b : Byte) : (flag2 b).isSome = true ↔ b &&& 0xFC = 0 := by
  simp only [flag2, byte_and_FC_eq_zero_iff, Option.isSome_ite]

theorem toNat_ofBytes (hi lo : Byte) : (ofBytes hi lo).toNat = hi.toNat * 256 + lo.toNat := by
  rw [ofBytes, BitVec.toNat_append, ← Nat.shiftLeft_add_eq_or_of_lt lo.isLt, Nat.shiftLeft_eq]

/-- Bits 15:10 of the notice mask are bits 7:2 of its first byte. -/
theorem maskOfBytes_isSome_iff (hi lo : Byte) : (maskOfBytes hi lo).isSome = true ↔ hi &&& 0xFC = 0 := by
  have hlo := lo.isLt
  simp only [maskOfBytes, byte_and_FC_eq_zero_iff, Option.isSome_ite, toNat_ofBytes]
  omega

/-- Operands whose one doubtful field is read as an `Option` are there exactly when that field's zero bits are clear. -/
theorem isSome_map_iff_zeroBits {α β : Type} {o : Option α} {g : α → β} {bits : Byte}
    (h : o.isSome = true ↔ bits = 0) : (o.map g).isSome = true ↔ decide (bits ≠ 0) = false := by
  rw [Option.isSome_map, h, decide_eq_false_iff_not, not_not]

/-! ### The validation (R190) -/

/-- R190 case 2: operands are read only from a frame of the kind's length. Operands of any other length give none. -/
theorem Request.length_of_ofOperands {k : ReqKind} {ops : List Byte} {r : Request}
    (h : Request.ofOperands k ops = some r) : ops.length + 2 = k.frameLength := by
  match k, ops, h with
  | .readNotices, [], _ | .saveImage, [], _ | .restart, [], _
  | .readStatus, [_], _ | .setAttention, [_], _ | .removeDevice, [_], _ | .deactivate, [_], _ | .abandon, [_], _
  | .setProfileSource, [_], _
  | .setNoticeMask, [_, _], _ | .removeEntry, [_, _], _ | .activate, [_, _], _ | .resync, [_, _], _
  | .resetDevice, [_, _], _ | .readDevice, [_, _], _ | .claim, [_, _], _ | .commit, [_, _], _ | .selectProfile, [_, _], _
  | .readEntry, [_, _, _], _ | .rawWrite, [_, _, _, _], _ | .setEntryAttr, [_, _, _, _, _], _
  | .write, [_, _, _, _, _, _], _ | .addEntry, [_, _, _, _, _, _, _], _
  | .defineDevice, [_, _, _, _, _, _, _, _, _], _ => rfl

/-- R190 case 4: in a frame of the kind's length the zero fields alone decide. -/
theorem Request.ofOperands_isSome_iff_of_length {k : ReqKind} {ops : List Byte} (code tag : Byte)
    (h : ops.length + 2 = k.frameLength) :
    (Request.ofOperands k ops).isSome = true ↔ k.zeroFieldSet (code :: tag :: ops) = false := by
  match k, ops, h with
  | .readNotices, [], _ | .saveImage, [], _ | .restart, [], _
  | .readStatus, [_], _ | .removeDevice, [_], _ | .deactivate, [_], _ | .abandon, [_], _ | .setProfileSource, [_], _
  | .removeEntry, [_, _], _ | .readDevice, [_, _], _ | .claim, [_, _], _
  | .rawWrite, [_, _, _, _], _ | .setEntryAttr, [_, _, _, _, _], _
  | .addEntry, [_, _, _, _, _, _, _], _ | .defineDevice, [_, _, _, _, _, _, _, _, _], _ => exact iff_of_true rfl rfl
  | .setAttention, [f], _ | .write, [_, _, _, f, _, _], _ => exact isSome_map_iff_zeroBits (flag2_isSome_iff f)
  | .setNoticeMask, [hi, lo], _ => exact isSome_map_iff_zeroBits (maskOfBytes_isSome_iff hi lo)
  | .activate, [_, f], _ | .resync, [_, f], _ | .resetDevice, [_, f], _ | .commit, [_, f], _ | .selectProfile, [_, f], _
  | .readEntry, [_, _, f], _ => exact isSome_map_iff_zeroBits (flag1_isSome_iff f)

theorem Request.ofOperands_isSome_iff (k : ReqKind) (code tag : Byte) (ops : List Byte) :
    (Request.ofOperands k ops).isSome = true ↔
      ops.length + 2 = k.frameLength ∧ k.zeroFieldSet (code :: tag :: ops) = false := by
  refine ⟨fun h => ?_, fun ⟨hlen, hzero⟩ => (Request.ofOperands_isSome_iff_of_length code tag hlen).mpr hzero⟩
  have hlen := Request.length_of_ofOperands (Option.some_get h).symm
  exact ⟨hlen, (Request.ofOperands_isSome_iff_of_length code tag hlen).mp h⟩

theorem Frame.names_iff {f : Frame} {k : ReqKind} :
    f.names k = true ↔ f.broken = false ∧ f.tagReadable = true ∧ f.kind = some k := by
  simp [Frame.names, and_assoc]

/-- A frame that names a kind holds the kind's code and a tag byte: a shorter one has no readable tag (R129). -/
theorem Frame.bytes_of_names {f : Frame} {k : ReqKind} (h : f.names k = true) :
    ∃ code ops, f.bytes = code :: f.tag :: ops ∧ ReqKind.ofCode code = some k := by
  obtain ⟨-, hreadable, hkind⟩ := Frame.names_iff.mp h
  obtain ⟨bytes, broken⟩ := f
  match bytes with
  | [] => cases hkind
  | [_] => cases hreadable
  | code :: _ :: ops => exact ⟨code, ops, rfl, hkind⟩

theorem Frame.request_isSome_iff {f : Frame} {k : ReqKind} (h : f.names k = true) :
    f.request.isSome = true ↔
      f.bytes.length = k.frameLength ∧ f.tag.toNat < 240 ∧ k.zeroFieldSet f.bytes = false := by
  obtain ⟨code, ops, hbytes, hcode⟩ := Frame.bytes_of_names h
  have hrequest : f.request = if f.tag.toNat < 240 then Request.ofOperands k ops else none := by
    simp only [Frame.request, hbytes, hcode, Option.bind_some]
  rw [hrequest, hbytes]
  by_cases htag : f.tag.toNat < 240
  · rw [if_pos htag, Request.ofOperands_isSome_iff k code f.tag ops]
    simp [htag]
  · simp [htag]

/-! ### The take of a judged frame (R128) -/

/-- A take of a kind leaves its frame to the steps of R128, and the request's own rule to the kind. -/
theorem exec_command (k : ReqKind) (p : Port) (s : State) :
    ∃ act, exec (k.command p) s = .next (s.takeRequest p k act) := by
  cases k <;> exact ⟨_, rfl⟩

section
variable {s : State} {p : Port} {k : ReqKind} {f : Frame} {act : Byte → Request → State → State}

theorem State.tagOutstanding_iff {tag : Byte} :
    s.tagOutstanding p tag = true ↔ ∃ o ∈ (s.port p).outstanding, o.tag = tag := by
  simp [State.tagOutstanding]

@[simp] theorem State.tagOutstanding_dequeue (q : Port) (tag : Byte) :
    (s.dequeue p).tagOutstanding q tag = s.tagOutstanding q tag := by
  simp [State.tagOutstanding]

theorem State.takeRequest_of_names (hp : s.nextTake = some p) (hf : (s.port p).requests.head? = some f)
    (hn : f.names k = true) : s.takeRequest p k act = (s.dequeue p).judgeFrame p k f act := by
  obtain ⟨rest, hq⟩ := List.head?_eq_some_iff.mp hf
  simp only [State.takeRequest, hp, hq, hn, if_true]

theorem State.takeBadFrame_of_head (hp : s.nextTake = some p) (hf : (s.port p).requests.head? = some f)
    (hn : f.namesSome = false) :
    s.takeBadFrame p =
      (s.dequeue p).respond p f.tag (if f.broken || !f.tagReadable then .badFrame else .badRequest) .none := by
  obtain ⟨rest, hq⟩ := List.head?_eq_some_iff.mp hf
  simp only [State.takeBadFrame, hp, hq, hn, if_true]
  exact (apply_ite (fun o => (s.dequeue p).respond p f.tag o .none) _ _ _).symm

theorem State.judgeFrame_of_invalid (hr : f.request = none) :
    s.judgeFrame p k f act = s.respond p f.tag .badRequest .none := by
  simp only [State.judgeFrame, hr]

theorem State.judgeFrame_of_tagOutstanding (hr : f.request.isSome = true) (ho : s.tagOutstanding p f.tag = true) :
    s.judgeFrame p k f act = s.respond p f.tag .badRequest .none := by
  obtain ⟨r, hr⟩ := Option.isSome_iff_exists.mp hr
  simp only [State.judgeFrame, hr, ho, if_true]

theorem State.judgeFrame_of_notPermitted (hr : f.request.isSome = true) (ho : s.tagOutstanding p f.tag = false)
    (hk : k.hOnly = true) (hl : p = .l) : s.judgeFrame p k f act = s.respond p f.tag .notPermitted .none := by
  obtain ⟨r, hr⟩ := Option.isSome_iff_exists.mp hr
  subst hl
  simp [State.judgeFrame, hr, ho, hk]

/-- A frame that steps 2 to 4 of R128 judge, whatever its kind's own rule, is taken and given that judgement's answer. -/
theorem exec_command_of_judged {o : OutcomeCode} (hp : s.nextTake = some p) (hf : (s.port p).requests.head? = some f)
    (hn : f.names k = true) (hj : ∀ act, (s.dequeue p).judgeFrame p k f act = (s.dequeue p).respond p f.tag o .none) :
    exec (k.command p) s = .next { s.dequeue p with ports := (s.dequeue p).answered p f.tag o .none } := by
  obtain ⟨act, hexec⟩ := exec_command k p s
  rw [hexec, State.takeRequest_of_names hp hf hn, hj, State.respond_eq]

theorem exec_badFrameTake_of_head (hp : s.nextTake = some p) (hf : (s.port p).requests.head? = some f)
    (hn : f.namesSome = false) :
    exec (.badFrameTake p) s = .next { s.dequeue p with
      ports := (s.dequeue p).answered p f.tag (if f.broken || !f.tagReadable then .badFrame else .badRequest) .none } :=
  congrArg Host.Outcome.next (State.takeBadFrame_of_head hp hf hn)

end

/-! ### The statement -/

/-- Settles O14: the validation by the shape of the frame's bytes; then R128's steps in their order, a frame that names no
kind through BAD_FRAME_TAKE and every other through the take of its kind. -/
theorem framesAreJudgedInOrder : Obligations.FramesAreJudgedInOrder := by
  refine ⟨fun f k hn => Frame.request_isSome_iff hn, fun s p f hp hf =>
    ⟨fun hbad => ?_, fun hb ht hkind => ?_, fun k hn hr => ?_, fun k hn hr ho => ?_, fun k hn hr ho hk hl => ?_⟩⟩
  · have hnames : f.namesSome = false := by
      rcases hbad with hb | ht
      · simp [Frame.namesSome, hb]
      · simp [Frame.namesSome, ht]
    have hcond : (f.broken || !f.tagReadable) = true := by simpa using hbad
    rw [exec_badFrameTake_of_head hp hf hnames, if_pos hcond]
  · have hnames : f.namesSome = false := by simp [Frame.namesSome, hkind]
    have hcond : ¬ (f.broken || !f.tagReadable) = true := by simp [hb, ht]
    rw [exec_badFrameTake_of_head hp hf hnames, if_neg hcond]
  · exact exec_command_of_judged hp hf hn fun _ => State.judgeFrame_of_invalid hr
  · have hout : (s.dequeue p).tagOutstanding p f.tag = true := by
      rwa [State.tagOutstanding_dequeue, State.tagOutstanding_iff]
    exact exec_command_of_judged hp hf hn fun _ => State.judgeFrame_of_tagOutstanding hr hout
  · have hfree : (s.dequeue p).tagOutstanding p f.tag = false := by
      rw [State.tagOutstanding_dequeue, Bool.eq_false_iff, ne_eq, State.tagOutstanding_iff]
      exact fun ⟨o, hmem, heq⟩ => ho o hmem heq
    exact exec_command_of_judged hp hf hn fun _ => State.judgeFrame_of_notPermitted hr hfree hk hl

end Sys2Proof.Machine

/-! Entries and devices: what a committed change, a re-examination and a load make of them (R9, R10, R26, R33, R35, R36,
R77). -/

namespace Sys2Proof.Machine

/-! ### Committed changes (R9, R10, R26) -/

/-- A change of an entry's slots: its register, state, applied value, attempts and mark stay. -/
structure Entry.SlotChange (f : Entry → Entry) : Prop where
  register : ∀ e, (f e).register = e.register
  state : ∀ e, (f e).state = e.state
  applied : ∀ e, (f e).applied = e.applied
  mark : ∀ e, (f e).mark = e.mark

theorem Entry.slotChange_id : Entry.SlotChange id := ⟨fun _ => rfl, fun _ => rfl, fun _ => rfl, fun _ => rfl⟩

theorem Entry.slotChange_clearStaged : Entry.SlotChange Entry.clearStaged :=
  ⟨fun _ => rfl, fun _ => rfl, fun _ => rfl, fun _ => rfl⟩

theorem Entry.slotChange_commitStaged : Entry.SlotChange Entry.commitStaged :=
  ⟨fun _ => rfl, fun _ => rfl, fun _ => rfl, fun _ => rfl⟩

theorem Entry.slotChange_commitSlot (slot : Fin 4) (c : SlotContent) : Entry.SlotChange (Entry.commitSlot slot c) := by
  have h : ∀ e : Entry, (e.commitSlot slot c).register = e.register ∧ (e.commitSlot slot c).state = e.state ∧
      (e.commitSlot slot c).applied = e.applied ∧ (e.commitSlot slot c).mark = e.mark := fun e => by
    match slot with
    | 0 => cases c <;> exact ⟨rfl, rfl, rfl, rfl⟩
    | 1 | 2 | 3 => exact ⟨rfl, rfl, rfl, rfl⟩
  exact ⟨fun e => (h e).1, fun e => (h e).2.1, fun e => (h e).2.2.1, fun e => (h e).2.2.2⟩

/-- R26's table, on the state and the attempts; every other field stays. -/
theorem Entry.moved_eq (e : Entry) :
    e.moved =
      { e with
        state := match e.state with
          | .inFlight ph v => .inFlight ph v
          | _ => .pending
        attempts := match e.state with
          | .failed | .pending => 0
          | _ => e.attempts } := by
  obtain ⟨r, o, vm, b, o1, o2, o3, st, ap, at', sb, s1, s2, s3, m⟩ := e
  cases st <;> rfl

@[simp] theorem Entry.register_moved (e : Entry) : e.moved.register = e.register := by rw [Entry.moved_eq]
@[simp] theorem Entry.applied_moved (e : Entry) : e.moved.applied = e.applied := by rw [Entry.moved_eq]
@[simp] theorem Entry.mark_moved (e : Entry) : e.moved.mark = e.mark := by rw [Entry.moved_eq]

@[simp] theorem Entry.hasStaged_moved (e : Entry) : e.moved.hasStaged = e.hasStaged := by
  rw [Entry.moved_eq]
  rfl

section
variable {f : Entry → Entry} {p p' : Profile} {st : DevState} {e : Entry}

/-- A committed change that moves the desired value, with the mark that a change of profile sets (R26, R117). -/
theorem Entry.change_of_desired_ne (h : (f e).desired p' ≠ e.desired p) :
    e.change f p p' st =
      { (f e).moved with mark := (f e).mark || (st.managed && decide ((f e).desired p' ≠ (f e).desired p)) } := by
  rw [Entry.change, if_neg h]
  cases hm : (st.managed && decide ((f e).desired p' ≠ (f e).desired p)) with
  | true => rw [if_pos rfl, Bool.or_true]
  | false => rw [if_neg Bool.false_ne_true, Bool.or_false, ← Entry.mark_moved]

theorem Entry.change_cases (f : Entry → Entry) (p p' : Profile) (st : DevState) (e : Entry) :
    (f e).desired p' = e.desired p ∧ e.change f p p' st = f e ∨
      (f e).desired p' ≠ e.desired p ∧ e.change f p p' st =
        { (f e).moved with mark := (f e).mark || (st.managed && decide ((f e).desired p' ≠ (f e).desired p)) } := by
  by_cases h : (f e).desired p' = e.desired p
  · exact .inl ⟨h, Entry.change_of_desired_eq h⟩
  · exact .inr ⟨h, Entry.change_of_desired_ne h⟩

theorem Entry.register_change (hf : Entry.SlotChange f) : (e.change f p p' st).register = e.register := by
  rcases Entry.change_cases f p p' st e with ⟨-, h⟩ | ⟨-, h⟩ <;> rw [h]
  · exact hf.register e
  · exact (Entry.register_moved (f e)).trans (hf.register e)

theorem DevState.managed_iff {st : DevState} :
    st.managed = true ↔ st = .loading ∨ st = .running ∨ st = .diverged ∨ st = .suspect := by
  cases st <;> simp [DevState.managed]

end

/-- Settles O25: the two branches of the comparison, and R26's table on the branch that moves the value. -/
theorem committedChangesMoveTheEntryState : Obligations.CommittedChangesMoveTheEntryState := by
  intro e f p p' st hf
  obtain ⟨hstate, happlied, hattempts, hmark⟩ := hf e
  refine ⟨rfl, rfl, rfl, rfl, Entry.change_of_desired_eq, fun hne => ?_⟩
  have hdesired : ∀ q, (e.change f p p' st).desired q = (f e).desired q := fun q => Entry.desired_change q
  rw [Entry.change_of_desired_ne hne] at hdesired ⊢
  rw [Entry.moved_eq, hstate, hattempts, hmark] at hdesired ⊢
  refine ⟨fun h => ?_, fun h => ?_, fun h => ?_, fun ph v h => ?_, happlied, hdesired, ?_⟩
  · simp [h]
  · simp [h]
  · simp [h]
  · simp [h]
  · simp [DevState.managed_iff, and_comm]

/-! ### Re-examination (R33, R36) -/

section
variable (granted : Bool) (dv : Device)

/-- Re-examination moves the load phase between ENTRIES and MARKER alone, and that only in LOADING (R36). -/
theorem Device.phase_reexamine :
    (dv.reexamine granted).phase =
      if dv.state = .loading then
        if dv.phase = .entries ∧ dv.anyUnsettled = false then .marker
        else if dv.phase = .marker ∧ granted = false ∧ dv.anyPending = true then .entries
        else dv.phase
      else dv.phase := by
  cases hst : dv.state with
  | dormant | suspect | fenced => simp [Device.reexamine, hst]
  | running | diverged =>
    simp only [Device.reexamine, hst]
    split <;> simp
  | loading =>
    cases hph : dv.phase with
    | confirmed => simp [Device.reexamine, hst, hph]
    | entries => cases hu : dv.anyUnsettled <;> simp [Device.reexamine, hst, hph, hu]
    | marker => cases hp : dv.anyPending <;> cases granted <;> simp [Device.reexamine, hst, hph, hp]

/-- Re-examination changes the device state and the load phase alone. -/
theorem Device.reexamine_eq :
    dv.reexamine granted = { dv with state := (dv.reexamine granted).state, phase := (dv.reexamine granted).phase } := by
  unfold Device.reexamine
  repeat' split
  all_goals rfl

end

theorem Device.anyFailed_iff {dv : Device} : dv.anyFailed = true ↔ ∃ e ∈ dv.entries, e.state = .failed := by
  simp [Device.anyFailed, Entry.isFailed_iff]

theorem Device.anyUnsettled_eq_false_iff {dv : Device} :
    dv.anyUnsettled = false ↔ ∀ e ∈ dv.entries, e.isPending = false ∧ e.isInFlight = false := by
  simp [Device.anyUnsettled]

/-- Settles O26: the state and the phase of `Device.state_reexamine` and `Device.phase_reexamine`, and no other field. -/
theorem reexaminationFollowsTheEntries : Obligations.ReexaminationFollowsTheEntries := by
  intro granted dv
  rw [Device.reexamine_eq, Device.state_reexamine, Device.phase_reexamine]
  simp only [Device.anyFailed_iff, Device.anyUnsettled_eq_false_iff, Device.anyPending_iff]

/-! ### Loads (R35, R36, R77) -/

/-- R77: the timer is reloaded from DORMANT and FENCED and where a due probe is dropped, and runs on otherwise. -/
theorem Device.timerForLoad_eq (dv : Device) :
    dv.timerForLoad =
      if dv.state = .dormant ∨ dv.state = .fenced ∨ dv.state ≠ .loading ∧ dv.probeDue = true then dv.reloadTimer
      else { dv with probeDue := false } := by
  obtain ⟨ps, st, ph, remaining, elapsed, due, losses, p, es⟩ := dv
  cases st <;> cases due <;> rfl

/-- A load's record in full, but for the probe timer's fields (R35, R36). -/
theorem Device.beginLoad_eq (dv : Device) :
    dv.beginLoad =
      { dv with
        state := .loading
        phase := if dv.entries = [] then .marker else .entries
        entries := dv.entries.map Entry.unload
        probeDue := false
        probeRemaining := dv.timerForLoad.probeRemaining
        probeElapsed := dv.timerForLoad.probeElapsed } := by
  simp only [Device.beginLoad, List.isEmpty_iff]
  rw [Device.timerForLoad_eq]
  split <;> rfl

@[simp] theorem Device.state_beginLoad (dv : Device) : dv.beginLoad.state = .loading := rfl
@[simp] theorem Device.entries_beginLoad (dv : Device) : dv.beginLoad.entries = dv.entries.map Entry.unload := rfl
@[simp] theorem Device.params_beginLoad (dv : Device) : dv.beginLoad.params = dv.params := by rw [Device.beginLoad_eq]
@[simp] theorem Device.losses_beginLoad (dv : Device) : dv.beginLoad.losses = dv.losses := by rw [Device.beginLoad_eq]
@[simp] theorem Device.profile_beginLoad (dv : Device) : dv.beginLoad.profile = dv.profile := by rw [Device.beginLoad_eq]

/-- Settles O29: `Device.beginLoad_eq`, with the timer of `Device.timerForLoad_eq`. -/
theorem loadsBeginWithEveryEntryPending : Obligations.LoadsBeginWithEveryEntryPending := by
  intro dv
  rw [Device.beginLoad_eq, Device.timerForLoad_eq]
  refine ⟨rfl, rfl, rfl, rfl, rfl, rfl, rfl, fun hst => ?_, fun hst => ?_, fun hst => ?_⟩
  · have hreload : dv.state = .dormant ∨ dv.state = .fenced ∨ dv.state ≠ .loading ∧ dv.probeDue = true := by tauto
    rw [if_pos hreload]
    exact ⟨rfl, rfl⟩
  · have hreload : (dv.state = .dormant ∨ dv.state = .fenced ∨ dv.state ≠ .loading ∧ dv.probeDue = true) ↔
        dv.probeDue = true := by
      rcases hst with hst | hst | hst <;> simp [hst]
    simp only [hreload]
    split <;> exact ⟨rfl, rfl⟩
  · have hkeep : ¬ (dv.state = .dormant ∨ dv.state = .fenced ∨ dv.state ≠ .loading ∧ dv.probeDue = true) := by simp [hst]
    rw [if_neg hkeep]
    exact ⟨rfl, rfl⟩

end Sys2Proof.Machine

/-! The operations that answer, count and switch, each as one change of the state (R116, R117, R119 to R122). -/

namespace Sys2Proof.Machine

/-! ### The completion test (R121, R122) -/

theorem completionAnswer_eq (n : Nat) :
    completionAnswer n = toWaiters (if n = 0 then (.ok, .none) else (.failed, .unapplied n)) := by
  funext o
  unfold completionAnswer toWaiters
  cases h : o.wait <;> simp

theorem supersededAnswer_eq : supersededAnswer = toWaiters (.superseded, .none) := by
  funext o
  unfold supersededAnswer toWaiters
  cases h : o.wait <;> simp

/-- What a port holds once a transition to the profile P has settled with n entries unapplied. -/
def PortSide.settledTransition (P : Profile) (n : Nat) (q : PortSide) : PortSide :=
  (q.post (.profileSettled P n)).answer (toWaiters (if n = 0 then (.ok, .none) else (.failed, .unapplied n)))

theorem State.completionTest_settles {s : State} {t : Transition} (h : s.profiles.transition = some t)
    (hm : s.anyMark = false) (hd : t.anyDeferred = false) :
    s.completionTest =
      { s with
        profiles := { s.profiles with transition := none }
        ports := s.eachPort (PortSide.settledTransition t.target t.unapplied) } := by
  rw [State.completionTest_of_settled h hm hd, completionAnswer_eq, State.answer_eq, State.post_eq]
  simp only [State.eachPort, PortSide.settledTransition]

theorem State.completionTest_of_deferred {s : State} {t : Transition} (h : s.profiles.transition = some t)
    (hd : t.anyDeferred = true) : s.completionTest = s := by
  simp [State.completionTest, h, hd]

/-- The completion test leaves the state as it is, or settles a transition with no mark and no deferred device left. -/
theorem State.completionTest_cases (s : State) :
    s.completionTest = s ∨ ∃ t, s.profiles.transition = some t ∧ s.anyMark = false ∧ t.anyDeferred = false ∧
      s.completionTest =
        { s with
          profiles := { s.profiles with transition := none }
          ports := s.eachPort (PortSide.settledTransition t.target t.unapplied) } := by
  cases h : s.profiles.transition with
  | none => exact .inl (State.completionTest_of_none h)
  | some t =>
    cases hm : s.anyMark with
    | true => exact .inl (State.completionTest_of_marked hm)
    | false =>
      cases hd : t.anyDeferred with
      | true => exact .inl (State.completionTest_of_deferred h hd)
      | false => exact .inr ⟨t, rfl, rfl, hd, State.completionTest_settles h hm hd⟩

/-! ### Marks cleared (R119) -/

theorem Device.markCount_eq (dv : Device) : dv.markCount = (dv.entries.filter fun e => e.mark).length :=
  List.countP_eq_length_filter

/-- Marks cleared from a device count as unapplied, and call for the completion test where there was one. -/
theorem State.clearMarks_of_device {s : State} {d : DevNum} {dv : Device} (hd : s.device d = some dv) :
    s.clearMarks d =
      if dv.markCount = 0 then s
      else State.completionTest
        { s.setDevice d { dv with entries := dv.entries.map fun e => { e with mark := false } } with
          profiles := s.profiles.counting dv.markCount } := by
  simp only [State.clearMarks, hd, State.addUnapplied_eq_counting]
  rfl

/-! ### Switches (R115 to R117) -/

theorem State.device_reexamine (s : State) (d e : DevNum) :
    (s.reexamine d).device e =
      if e = d then (s.device d).map (Device.reexamine (s.markerGranted d)) else s.device e :=
  State.device_modDevice s d e _

@[simp] theorem State.markerGranted_reexamine (s : State) (d e : DevNum) :
    (s.reexamine d).markerGranted e = s.markerGranted e := by
  simp [State.markerGranted]

theorem State.device_reexamineAll (s : State) (d : DevNum) :
    s.reexamineAll.device d = (s.device d).map (Device.reexamine (s.markerGranted d)) := by
  unfold State.reexamineAll
  match d with
  | 0 | 1 | 2 | 3 | 4 | 5 => simp [State.device_reexamine]

theorem Device.change_id_eq (dv : Device) (P : Profile) :
    dv.change id P = { dv with profile := P, entries := dv.entries.map (Entry.change id dv.profile P dv.state) } := rfl

theorem Device.unappliedBy_id_eq (dv : Device) (P : Profile) :
    dv.unappliedBy id P =
      if dv.state = .fenced then (dv.entries.filter fun e => decide (e.desired P ≠ e.desired dv.profile)).length else 0 := by
  rw [Device.unappliedBy_eq]
  simp

theorem State.switchUnapplied_eq (s : State) (P : Profile) (d : DevNum) :
    s.switchUnapplied P d = match s.device d with
      | some dv =>
        if (s.claim d).isSome = true ∨ dv.state ≠ .fenced then 0
        else (dv.entries.filter fun e => decide (e.desired P ≠ e.desired dv.profile)).length
      | none => 0 := by
  unfold State.switchUnapplied State.claimed
  cases s.device d with
  | none => rfl
  | some dv =>
    simp only [Device.unappliedBy_id_eq]
    split_ifs <;> simp_all

/-- The engine's switch is the one that the statements about switches describe. -/
theorem State.switchTo_eq_switched (s : State) (P : Profile) : s.switchTo P = s.switched P := by
  have hports : (s.switchTo P).ports =
      if s.profiles.transition.isSome = true then s.eachPort (PortSide.answer (toWaiters (.superseded, .none)))
      else s.ports := by
    rw [← supersededAnswer_eq]
    simp only [State.switchTo, State.reexamineAll_ports]
    split <;> rfl
  have hprofiles : (s.switchTo P).profiles = (s.switched P).profiles := by
    simp only [State.switchTo, State.reexamineAll_profiles, State.switched, sumDevices_eq_sum,
      funext (s.switchUnapplied_eq P)]
    rfl
  have hdevices : (s.switchTo P).devices = (s.switched P).devices := by
    refine PerDevice.ext_get fun d => ?_
    have hd : (s.switchTo P).device d = (s.switchedDevice P d).map (Device.reexamine (s.markerGranted d)) := by
      simp only [State.switchTo, State.device_reexamineAll]
      congr 1
      · congr 1
        split <;> rfl
      · exact PerDevice.get_ofFn _ d
    rw [← State.device, hd, State.switched, PerDevice.get_ofFn, State.switchedDevice, Option.map_map]
    rfl
  rw [State.switchTo_eq, hports, hprofiles, hdevices]
  rfl

end Sys2Proof.Machine

/-! The laws of a safe run, said of devices and entries, and what it is for a happening to keep them all. -/

namespace Sys2Proof.Machine

/-! ### Checks over every device and every entry -/

theorem allDevices_iff {f : DevNum → Bool} : allDevices f = true ↔ ∀ d, f d = true := by
  simp [allDevices, Fin.forall_fin_succ, and_assoc]

theorem anyDevice_eq_false_iff {f : DevNum → Bool} : anyDevice f = false ↔ ∀ d, f d = false := by
  simp [anyDevice, Fin.forall_fin_succ, and_assoc]

theorem anyDevice_iff {f : DevNum → Bool} : anyDevice f = true ↔ ∃ d, f d = true := by
  rw [← not_iff_not, Bool.not_eq_true, anyDevice_eq_false_iff]
  simp

section
variable {s : State}

theorem State.allDefined_iff {f : DevNum → Device → Bool} :
    s.allDefined f = true ↔ ∀ d dv, s.device d = some dv → f d dv = true := by
  rw [State.allDefined, allDevices_iff]
  refine forall_congr' fun d => ?_
  cases s.device d <;> simp

theorem State.allEntries_iff {f : DevNum → Device → Entry → Bool} :
    s.allEntries f = true ↔ ∀ d dv, s.device d = some dv → ∀ e ∈ dv.entries, f d dv e = true := by
  rw [State.allEntries, allDevices_iff]
  refine forall_congr' fun d => ?_
  cases s.device d <;> simp

theorem State.anyMark_eq_false_iff :
    s.anyMark = false ↔ ∀ d dv, s.device d = some dv → ∀ e ∈ dv.entries, e.mark = false := by
  rw [State.anyMark, anyDevice_eq_false_iff]
  refine forall_congr' fun d => ?_
  cases s.device d <;> simp

/-! ### The laws (R4, R5, R11, R15, R24, R33, R36, R117, R119) -/

/-- R5 and R15 on one device record. -/
abbrev Device.Lawful (dv : Device) : Prop :=
  dv.params.inRange = true ∧ listLaw dv.params.checkRegister (dv.entries.map Entry.register) = true

theorem State.imageLaw_iff :
    s.imageLaw = true ↔ (∀ d dv, s.device d = some dv → dv.Lawful) ∧ s.poolInUse ≤ 320 ∧ s.bankA.lawful = true ∧
      s.bankB.lawful = true ∧ ∀ r, s.save.record = some r → r.snapshot.lawful = true := by
  unfold State.imageLaw
  cases s.save.record <;> simp [State.allDefined_iff, Device.Lawful, and_assoc]

theorem State.stagedLaw_iff :
    s.stagedLaw = true ↔
      ∀ d dv, s.device d = some dv → ∀ e ∈ dv.entries, e.hasStaged = true → s.claimed d = true := by
  simp [State.stagedLaw, State.allEntries_iff, imp_iff_not_or]

theorem State.profileLaw_iff :
    s.profileLaw = true ↔ ∀ d dv, s.device d = some dv →
      dv.profile = s.profiles.target ∨ s.claimed d = true ∧ s.deferred d = true := by
  simp [State.profileLaw, State.allDefined_iff]

/-- R24 on an APPLIED entry under the profile in effect p. -/
abbrev Entry.AppliedOk (p : Profile) (e : Entry) : Prop := e.isApplied = true → e.applied = some (e.desired p)

theorem State.appliedLaw_iff :
    s.appliedLaw = true ↔ ∀ d dv, s.device d = some dv → ∀ e ∈ dv.entries, e.AppliedOk dv.profile := by
  simp [State.appliedLaw, State.allEntries_iff, Entry.AppliedOk, imp_iff_not_or]

/-- R24: the transaction in progress is the push, not marked for discard, of the entry of register r of device d. -/
def State.Carries (s : State) (d : DevNum) (r : Register) : Prop :=
  ∃ t, s.txn = some t ∧ t.kind = .push ∧ t.device = d ∧ t.register = r ∧ t.discard = false

theorem State.flightLaw_iff :
    s.flightLaw = true ↔ s.imageLaw = true ∧
      ∀ d dv, s.device d = some dv → ∀ e ∈ dv.entries, e.isInFlight = true → s.Carries d e.register := by
  unfold State.flightLaw State.Carries
  cases s.txn <;> simp [State.allEntries_iff, imp_iff_not_or, and_assoc]

/-- R119: PENDING or IN_FLIGHT. -/
def Entry.isUnsettled (e : Entry) : Bool := e.isPending || e.isInFlight

theorem State.markLaw_iff :
    s.markLaw = true ↔ ∀ d dv, s.device d = some dv → ∀ e ∈ dv.entries, e.mark = true →
      e.isUnsettled = true ∧ s.profiles.transition.isSome = true := by
  simp [State.markLaw, State.allEntries_iff, Entry.isUnsettled, imp_iff_not_or]

theorem State.failLaw_iff : s.failLaw = true ↔ ∀ d dv, s.device d = some dv → dv.failLaw = true :=
  State.allDefined_iff

theorem State.markerLaw_iff :
    s.markerLaw = true ↔ ∀ d, s.markerGranted d = true → ∃ dv, s.device d = some dv ∧ dv.state = .loading := by
  rw [State.markerLaw, allDevices_iff]
  refine forall_congr' fun d => ?_
  cases s.device d <;> cases s.markerGranted d <;> simp

theorem State.idleLaw_iff :
    s.idleLaw = true ↔ (s.hubState = .ready ∨ s.txn = none ∧ s.portH.phase = .inactive ∧ s.portL.framing = .inactive) ∧
      (s.link = none ∨ s.txn.isSome = true) := by
  simp [State.idleLaw, State.ready, and_assoc]

/-- Two entries of one register in a list in ascending order are one. -/
theorem eq_of_register_eq {es : List Entry} {x y : Entry} (hasc : ascending (es.map Entry.register) = true) (hx : x ∈ es)
    (hy : y ∈ es) (h : x.register = y.register) : x = y :=
  Option.some.inj ((findEntry_eq_some hasc hx).symm.trans (h ▸ findEntry_eq_some hasc hy))

theorem Device.Lawful.ascending {dv : Device} (h : dv.Lawful) :
    Machine.ascending (dv.entries.map Entry.register) = true := by
  obtain ⟨-, hlist⟩ := h
  rw [listLaw, Bool.and_eq_true, Bool.and_eq_true] at hlist
  exact hlist.1.1

theorem State.lossLaw_iff :
    s.lossLaw = true ↔ s.imageLaw = true ∧ s.markerLaw = true ∧
      ∀ d dv, s.device d = some dv → dv.lossLaw = true := by
  simp [State.lossLaw, State.allDefined_iff, and_assoc]

end

end Sys2Proof.Machine

/-! What a happening keeps: the laws one by one, and the changes of entries and devices that cannot break them. -/

namespace Sys2Proof.Machine

/-! ### The laws kept -/

/-- The laws about the image, the claims, the marks, the FAILED entries, the notices and the link that hold of s hold of t. -/
structure State.Keeps (s t : State) : Prop where
  image : s.imageLaw = true → t.imageLaw = true
  claims : s.stagedLaw = true → s.profileLaw = true → t.stagedLaw = true ∧ t.profileLaw = true
  marks : s.markLaw = true → t.markLaw = true
  fails : s.imageLaw = true → s.failLaw = true → t.failLaw = true
  notices : s.noticeLaw = true → t.noticeLaw = true
  idle : s.idleLaw = true → t.idleLaw = true

/-- R24, kept. -/
def State.KeepsFlights (s t : State) : Prop :=
  s.appliedLaw = true → s.flightLaw = true → t.appliedLaw = true ∧ t.flightLaw = true

/-- R81, kept. -/
def State.KeepsLosses (s t : State) : Prop := s.lossLaw = true → t.lossLaw = true

/-- Every law of the hub but the bound of the request queues, kept. -/
structure State.KeepsLaws (s t : State) : Prop where
  keeps : s.Keeps t
  flights : s.KeepsFlights t
  losses : s.KeepsLosses t

section
variable {s t u : State}

theorem State.Keeps.refl (s : State) : s.Keeps s := ⟨id, And.intro, id, fun _ => id, id, id⟩

theorem State.Keeps.trans (h : s.Keeps t) (k : t.Keeps u) : s.Keeps u where
  image hs := k.image (h.image hs)
  claims hs hp := (h.claims hs hp).elim k.claims
  marks hs := k.marks (h.marks hs)
  fails hi hs := k.fails (h.image hi) (h.fails hi hs)
  notices hs := k.notices (h.notices hs)
  idle hs := k.idle (h.idle hs)

theorem State.KeepsFlights.trans (h : s.KeepsFlights t) (k : t.KeepsFlights u) : s.KeepsFlights u :=
  fun ha hf => (h ha hf).elim k

theorem State.KeepsLaws.refl (s : State) : s.KeepsLaws s := ⟨State.Keeps.refl s, And.intro, id⟩

theorem State.KeepsLaws.trans (h : s.KeepsLaws t) (k : t.KeepsLaws u) : s.KeepsLaws u :=
  ⟨h.keeps.trans k.keeps, h.flights.trans k.flights, fun hs => k.losses (h.losses hs)⟩

end

/-! ### Entries and devices that claim no more than before -/

/-- An entry e' that keeps R24 where e did: under the profiles in effect p before and p' after. -/
structure Entry.Held (p p' : Profile) (e e' : Entry) : Prop where
  applied : e.AppliedOk p → e'.AppliedOk p'
  flight : e'.isInFlight = true → e.isInFlight = true ∧ e'.register = e.register

/-- An entry e' with no staged content and no mark that e did not have, on a device that is claimed or not. -/
structure Entry.Mild (claimed : Bool) (e e' : Entry) : Prop where
  staged : e'.hasStaged = true → e.hasStaged = true ∨ claimed = true
  mark : e'.mark = true → e.mark = true ∧ (e.isUnsettled = true → e'.isUnsettled = true)

/-- An entry e' that claims nothing that e did not, on a device that is claimed or not, under the profile in effect p. -/
structure Entry.Tame (claimed : Bool) (p : Profile) (e e' : Entry) : Prop extends
  Entry.Held p p e e', Entry.Mild claimed e e'

/-- An entry that claims nothing: PENDING, with no staged content and no mark. -/
structure Entry.Fresh (e : Entry) : Prop where
  state : e.state = .pending
  staged : e.hasStaged = false
  mark : e.mark = false

/-- A device record whose entries keep R24. -/
def Device.Held (dv dv' : Device) : Prop :=
  ∀ e' ∈ dv'.entries, e'.Fresh ∨ ∃ e ∈ dv.entries, e.Held dv.profile dv'.profile e'

/-- A device record with no more staged contents and marks than before, and with the profile in effect and R33 kept. -/
structure Device.Mild (claimed : Bool) (dv dv' : Device) : Prop where
  profile : dv'.profile = dv.profile
  entries : ∀ e' ∈ dv'.entries, e'.Fresh ∨ ∃ e ∈ dv.entries, e.Mild claimed e'
  fail : dv.Lawful → dv.failLaw = true → dv'.failLaw = true

/-- A device record whose entries claim no more than before, with the profile in effect and R33 kept. -/
structure Device.Tame (claimed : Bool) (dv dv' : Device) : Prop where
  profile : dv'.profile = dv.profile
  entries : ∀ e' ∈ dv'.entries, e'.Fresh ∨ ∃ e ∈ dv.entries, e.Tame claimed dv.profile e'
  fail : dv.failLaw = true → dv'.failLaw = true

/-- A device record with R81 kept, still LOADING where it was. -/
structure Device.LossTame (dv dv' : Device) : Prop where
  loss : dv.params.inRange = true → dv.lossLaw = true → dv'.lossLaw = true
  loading : dv.state = .loading → dv'.state = .loading

theorem Entry.Tame.refl (c : Bool) (p : Profile) (e : Entry) : e.Tame c p e :=
  ⟨⟨id, fun h => ⟨h, rfl⟩⟩, .inl, fun h => ⟨h, id⟩⟩

theorem Entry.Mild.refl (c : Bool) (e : Entry) : e.Mild c e := ⟨.inl, fun h => ⟨h, id⟩⟩

theorem Device.Mild.refl (c : Bool) (dv : Device) : dv.Mild c dv :=
  ⟨rfl, fun e he => .inr ⟨e, he, .refl c e⟩, fun _ => id⟩

theorem Device.Tame.mild {c : Bool} {dv dv' : Device} (h : dv.Tame c dv') : dv.Mild c dv' :=
  ⟨h.profile, fun e' he' => (h.entries e' he').imp_right fun ⟨e, he, ht⟩ => ⟨e, he, ht.toMild⟩, fun _ => h.fail⟩

theorem Device.Tame.refl (c : Bool) (dv : Device) : dv.Tame c dv :=
  ⟨rfl, fun e he => .inr ⟨e, he, .refl c _ e⟩, id⟩

theorem Device.Tame.held {c : Bool} {dv dv' : Device} (h : dv.Tame c dv') : dv.Held dv' := by
  intro e' he'
  rw [h.profile]
  exact (h.entries e' he').imp_right fun ⟨e, he, ht⟩ => ⟨e, he, ht.toHeld⟩

theorem Device.LossTame.refl (dv : Device) : dv.LossTame dv := ⟨fun _ => id, id⟩

theorem Device.rel_lossTame_refl (x : Option Device) : Option.Rel Device.LossTame x x := by
  cases x with
  | none => exact .none
  | some dv => exact .some (.refl dv)

theorem Entry.Fresh.not_applied {e : Entry} (h : e.Fresh) : e.isApplied = false := by simp [Entry.isApplied, h.state]

theorem Entry.Fresh.not_flight {e : Entry} (h : e.Fresh) : e.isInFlight = false := by simp [Entry.isInFlight, h.state]

/-- Entries changed one by one, each to one that claims no more. -/
theorem Device.Tame.map {c : Bool} {dv dv' : Device} {f : Entry → Entry} (hp : dv'.profile = dv.profile)
    (he : dv'.entries = dv.entries.map f) (hf : ∀ e ∈ dv.entries, e.Tame c dv.profile (f e))
    (hfail : dv.failLaw = true → dv'.failLaw = true) : dv.Tame c dv' := by
  refine ⟨hp, fun e' he' => ?_, hfail⟩
  rw [he, List.mem_map] at he'
  obtain ⟨e, hmem, rfl⟩ := he'
  exact .inr ⟨e, hmem, hf e hmem⟩

/-- A device whose entries stay claims no more, whatever becomes of its state and its counts. -/
theorem Device.Tame.of_entries {c : Bool} {dv dv' : Device} (hp : dv'.profile = dv.profile)
    (he : dv'.entries = dv.entries) (hfail : dv.failLaw = true → dv'.failLaw = true) : dv.Tame c dv' :=
  .map (f := id) hp (by simp [he]) (fun e _ => .refl c _ e) hfail

/-! ### The context of a device: what of the state its laws read beside its record -/

/-- The claims, the target and the deferred devices stay, with the banks and the save buffer; the notices keep their law
and the link its own. -/
structure State.SameContext (s t : State) : Prop where
  claims : t.claims = s.claims
  target : t.profiles.target = s.profiles.target
  transition : t.profiles.transition.map Transition.deferred = s.profiles.transition.map Transition.deferred
  bankA : t.bankA = s.bankA
  bankB : t.bankB = s.bankB
  record : t.save.record = s.save.record
  notices : s.noticeLaw = true → t.noticeLaw = true
  idle : s.idleLaw = true → t.idleLaw = true

/-- The parts of a record that R5 and R15 read. -/
def Device.shape (dv : Device) : Params × List Register := (dv.params, dv.entries.map Entry.register)

section
variable {s t : State}

theorem State.SameContext.claimed (h : s.SameContext t) (d : DevNum) : t.claimed d = s.claimed d := by
  rw [State.claimed, State.claim, h.claims, State.claimed, State.claim]

theorem State.deferred_eq_map (s : State) (d : DevNum) :
    s.deferred d = ((s.profiles.transition.map Transition.deferred).map fun x => x.get d).getD false := by
  unfold State.deferred
  cases s.profiles.transition <;> rfl

theorem State.SameContext.deferred (h : s.SameContext t) (d : DevNum) : t.deferred d = s.deferred d := by
  rw [State.deferred_eq_map, h.transition, State.deferred_eq_map]

theorem State.SameContext.transition_isSome (h : s.SameContext t) :
    t.profiles.transition.isSome = s.profiles.transition.isSome := by
  rw [← Option.isSome_map (f := Transition.deferred), h.transition, Option.isSome_map]

theorem State.idleLaw_congr (hhub : t.hubState = s.hubState) (htxn : t.txn.isSome = s.txn.isSome)
    (hlink : t.link = none ∨ t.link = s.link) (hh : t.portH.phase = s.portH.phase)
    (hl : t.portL.framing = s.portL.framing) (h : s.idleLaw = true) : t.idleLaw = true := by
  have hnone : t.txn.isNone = s.txn.isNone := by rw [← Option.not_isSome, htxn, Option.not_isSome]
  have hready : t.ready = s.ready := by rw [State.ready, hhub, State.ready]
  simp only [State.idleLaw, hready, hnone, htxn, hh, hl, Bool.and_eq_true] at h ⊢
  refine ⟨h.1, ?_⟩
  rcases hlink with hlink | hlink
  · simp [hlink]
  · rw [hlink]
    exact h.2

theorem sumDevices_congr {f g : DevNum → Nat} (h : ∀ d, f d = g d) : sumDevices f = sumDevices g :=
  congrArg sumDevices (funext h)

theorem State.poolInUse_eq_shape (s : State) :
    s.poolInUse = sumDevices fun d => ((s.device d).map Device.shape).elim 0 fun x => x.2.length := by
  rw [State.poolInUse_eq]
  refine sumDevices_congr fun d => ?_
  cases s.device d <;> simp [Device.shape]

/-- The image law reads the parameters and the registers of the devices alone. -/
theorem State.imageLaw_of_shape (hs : ∀ d, (t.device d).map Device.shape = (s.device d).map Device.shape)
    (ha : t.bankA = s.bankA) (hb : t.bankB = s.bankB) (hr : t.save.record = s.save.record)
    (h : s.imageLaw = true) : t.imageLaw = true := by
  rw [State.imageLaw_iff] at h ⊢
  obtain ⟨hdevs, hpool, hA, hB, hrec⟩ := h
  refine ⟨fun d dv hd => ?_, ?_, ha ▸ hA, hb ▸ hB, hr ▸ hrec⟩
  · have hshape := hs d
    rw [hd, Option.map_some, eq_comm, Option.map_eq_some_iff] at hshape
    obtain ⟨dv0, hd0, heq⟩ := hshape
    obtain ⟨hparams, hregs⟩ := Prod.mk.inj heq
    have hlaw := hdevs d dv0 hd0
    rwa [Device.Lawful, hparams, hregs] at hlaw
  · rwa [State.poolInUse_eq_shape, sumDevices_congr fun d => by rw [hs d], ← State.poolInUse_eq_shape]

/-! ### Changes that keep the laws -/

/-- Devices changed without staging or marking more, in the same context, keep the laws. -/
theorem State.keeps_of_edits (hc : s.SameContext t) (himage : s.imageLaw = true → t.imageLaw = true)
    (he : ∀ d dv', t.device d = some dv' → ∃ dv, s.device d = some dv ∧ dv.Mild (s.claimed d) dv') : s.Keeps t where
  image := himage
  claims hstaged hprofile := by
    rw [State.stagedLaw_iff] at hstaged ⊢
    rw [State.profileLaw_iff] at hprofile ⊢
    refine ⟨fun d dv' hd' e' he' hst => ?_, fun d dv' hd' => ?_⟩
    · obtain ⟨dv, hd, htame⟩ := he d dv' hd'
      rw [hc.claimed]
      rcases htame.entries e' he' with hfresh | ⟨e, hmem, hte⟩
      · exact absurd hst (by simp [hfresh.staged])
      · exact (hte.staged hst).elim (hstaged d dv hd e hmem) id
    · obtain ⟨dv, hd, htame⟩ := he d dv' hd'
      rw [htame.profile, hc.target, hc.claimed, hc.deferred]
      exact hprofile d dv hd
  marks hmark := by
    rw [State.markLaw_iff] at hmark ⊢
    intro d dv' hd' e' he' hm
    obtain ⟨dv, hd, htame⟩ := he d dv' hd'
    rw [hc.transition_isSome]
    rcases htame.entries e' he' with hfresh | ⟨e, hmem, hte⟩
    · exact absurd hm (by simp [hfresh.mark])
    · obtain ⟨hem, hkept⟩ := hte.mark hm
      obtain ⟨hun, hsome⟩ := hmark d dv hd e hmem hem
      exact ⟨hkept hun, hsome⟩
  fails hi hfail := by
    rw [State.failLaw_iff] at hfail ⊢
    intro d dv' hd'
    obtain ⟨dv, hd, htame⟩ := he d dv' hd'
    exact htame.fail ((State.imageLaw_iff.mp hi).1 d dv hd) (hfail d dv hd)
  notices := hc.notices
  idle := hc.idle

/-- Devices changed without claiming more keep R24 where the transaction in progress still carries what is IN_FLIGHT. -/
theorem State.keepsFlights_of_edits (himage : s.imageLaw = true → t.imageLaw = true)
    (he : ∀ d dv', t.device d = some dv' → ∃ dv, s.device d = some dv ∧ dv.Held dv')
    (hcarry : s.flightLaw = true → ∀ d dv, s.device d = some dv → ∀ e ∈ dv.entries, e.isInFlight = true →
      t.Carries d e.register) : s.KeepsFlights t := by
  intro happlied hflight
  have hcarry := hcarry hflight
  rw [State.appliedLaw_iff] at happlied ⊢
  rw [State.flightLaw_iff] at hflight ⊢
  refine ⟨fun d dv' hd' e' he' => ?_, himage hflight.1, fun d dv' hd' e' he' hin => ?_⟩
  · obtain ⟨dv, hd, hheld⟩ := he d dv' hd'
    rcases hheld e' he' with hfresh | ⟨e, hmem, hte⟩
    · exact fun h => absurd h (by simp [hfresh.not_applied])
    · exact hte.applied (happlied d dv hd e hmem)
  · obtain ⟨dv, hd, hheld⟩ := he d dv' hd'
    rcases hheld e' he' with hfresh | ⟨e, hmem, hte⟩
    · exact absurd hin (by simp [hfresh.not_flight])
    · obtain ⟨hein, hreg⟩ := hte.flight hin
      rw [hreg]
      exact hcarry d dv hd e hmem hein

theorem State.mild_of_edits
    (he : ∀ d dv', t.device d = some dv' → ∃ dv, s.device d = some dv ∧ dv.Tame (s.claimed d) dv') :
    ∀ d dv', t.device d = some dv' → ∃ dv, s.device d = some dv ∧ dv.Mild (s.claimed d) dv' :=
  fun d dv' hd' => (he d dv' hd').imp fun _ h => ⟨h.1, h.2.mild⟩

theorem State.held_of_edits
    (he : ∀ d dv', t.device d = some dv' → ∃ dv, s.device d = some dv ∧ dv.Tame (s.claimed d) dv') :
    ∀ d dv', t.device d = some dv' → ∃ dv, s.device d = some dv ∧ dv.Held dv' :=
  fun d dv' hd' => (he d dv' hd').imp fun _ h => ⟨h.1, h.2.held⟩

/-- R81 is kept where every record keeps it and no marker transaction comes to be granted. -/
theorem State.keepsLosses_of_edits (himage : s.imageLaw = true → t.imageLaw = true)
    (hm : ∀ d, t.markerGranted d = true → s.markerGranted d = true)
    (he : ∀ d, Option.Rel Device.LossTame (s.device d) (t.device d)) : s.KeepsLosses t := by
  intro hloss
  rw [State.lossLaw_iff] at hloss ⊢
  obtain ⟨hi, hmarker, hdevs⟩ := hloss
  rw [State.markerLaw_iff] at hmarker ⊢
  refine ⟨himage hi, fun d hg => ?_, fun d dv' hd' => ?_⟩
  · obtain ⟨dv, hd, hst⟩ := hmarker d (hm d hg)
    have hrel := he d
    rw [hd] at hrel
    cases hrel' : t.device d with
    | none => rw [hrel'] at hrel; cases hrel
    | some dv' =>
      rw [hrel'] at hrel
      cases hrel with
      | some hr => exact ⟨dv', rfl, hr.loading hst⟩
  · have hrel := he d
    rw [hd'] at hrel
    cases hd : s.device d with
    | none => rw [hd] at hrel; cases hrel
    | some dv =>
      rw [hd] at hrel
      cases hrel with
      | some hr =>
        rw [State.imageLaw_iff] at hi
        exact hr.loss (hi.1 d dv hd).1 (hdevs d dv hd)

theorem State.carries_of_txn (h : t.txn = s.txn) (hf : s.flightLaw = true) :
    ∀ d dv, s.device d = some dv → ∀ e ∈ dv.entries, e.isInFlight = true → t.Carries d e.register := by
  rw [State.flightLaw_iff] at hf
  intro d dv hd e he hin
  rw [State.Carries, h]
  exact hf.2 d dv hd e he hin

theorem State.markerGranted_of_txn (h : t.txn = s.txn) (d : DevNum) : t.markerGranted d = s.markerGranted d := by
  rw [State.markerGranted, h, State.markerGranted]

/-- A happening that leaves the devices and their context as they are keeps the laws where the transaction in progress still
carries what it did, and no marker transaction comes to be granted. -/
theorem State.SameContext.keepsLaws_of_txn (hc : s.SameContext t) (hd : t.devices = s.devices)
    (hcarry : ∀ d r, s.Carries d r → t.Carries d r)
    (hm : ∀ d, t.markerGranted d = true → s.markerGranted d = true) : s.KeepsLaws t := by
  have hdev : ∀ d, t.device d = s.device d := fun d => by rw [State.device, hd, State.device]
  have himage := State.imageLaw_of_shape (s := s) (t := t) (fun d => by rw [hdev d]) hc.bankA hc.bankB hc.record
  have hedit : ∀ d dv', t.device d = some dv' → ∃ dv, s.device d = some dv ∧ dv.Tame (s.claimed d) dv' :=
    fun d dv' h => ⟨dv', (hdev d).symm.trans h, .refl _ dv'⟩
  refine ⟨State.keeps_of_edits hc himage (State.mild_of_edits hedit),
    State.keepsFlights_of_edits himage (State.held_of_edits hedit) fun hf => ?_,
    State.keepsLosses_of_edits himage hm fun d => ?_⟩
  · rw [State.flightLaw_iff] at hf
    exact fun d dv hd e he hin => hcarry d e.register (hf.2 d dv hd e he hin)
  · rw [hdev d]
    cases s.device d with
    | none => exact .none
    | some dv => exact .some (.refl dv)

theorem State.SameContext.keepsLaws (hc : s.SameContext t) (hd : t.devices = s.devices) (ht : t.txn = s.txn) :
    s.KeepsLaws t :=
  hc.keepsLaws_of_txn hd (fun d r => by rw [State.Carries, State.Carries, ht]; exact id)
    fun d h => State.markerGranted_of_txn ht d ▸ h

end

/-! ### One device's record changed -/

section
variable {s : State} {d : DevNum} {dv dv' : Device}

theorem State.sameContext_setDevice (s : State) (d : DevNum) (dv : Device) : s.SameContext (s.setDevice d dv) :=
  ⟨rfl, rfl, rfl, rfl, rfl, rfl, id, State.idleLaw_congr rfl rfl (.inr rfl) rfl rfl⟩

theorem State.imageLaw_setDevice (hd : s.device d = some dv) (hs : dv'.shape = dv.shape) (h : s.imageLaw = true) :
    (s.setDevice d dv').imageLaw = true := by
  refine State.imageLaw_of_shape (s := s) (fun e => ?_) rfl rfl rfl h
  rw [State.device_setDevice]
  split
  next he => rw [he, hd, Option.map_some, Option.map_some, hs]
  next => rfl

theorem State.edits_setDevice (hd : s.device d = some dv) (ht : dv.Tame (s.claimed d) dv') :
    ∀ e ev', (s.setDevice d dv').device e = some ev' → ∃ ev, s.device e = some ev ∧ ev.Tame (s.claimed e) ev' := by
  intro e ev' he
  rw [State.device_setDevice] at he
  split at he
  next heq =>
    subst heq
    cases he
    exact ⟨dv, hd, ht⟩
  next => exact ⟨ev', he, .refl _ ev'⟩

theorem State.keeps_setDevice (hd : s.device d = some dv) (ht : dv.Tame (s.claimed d) dv')
    (himage : s.imageLaw = true → (s.setDevice d dv').imageLaw = true) : s.Keeps (s.setDevice d dv') :=
  State.keeps_of_edits (State.sameContext_setDevice s d dv') himage (State.mild_of_edits (State.edits_setDevice hd ht))

theorem State.keepsFlights_setDevice (hd : s.device d = some dv) (ht : dv.Tame (s.claimed d) dv')
    (himage : s.imageLaw = true → (s.setDevice d dv').imageLaw = true) : s.KeepsFlights (s.setDevice d dv') :=
  State.keepsFlights_of_edits himage (State.held_of_edits (State.edits_setDevice hd ht)) (State.carries_of_txn rfl)

theorem State.rel_lossTame_setDevice (hd : s.device d = some dv) (hl : dv.LossTame dv') (e : DevNum) :
    Option.Rel Device.LossTame (s.device e) ((s.setDevice d dv').device e) := by
  rw [State.device_setDevice]
  split
  next heq =>
    rw [heq, hd]
    exact .some hl
  next => exact Device.rel_lossTame_refl _

theorem State.keepsLosses_setDevice (hd : s.device d = some dv) (hl : dv.LossTame dv')
    (himage : s.imageLaw = true → (s.setDevice d dv').imageLaw = true) : s.KeepsLosses (s.setDevice d dv') :=
  State.keepsLosses_of_edits himage (fun _ => id) (State.rel_lossTame_setDevice hd hl)

theorem State.keepsLaws_setDevice (hd : s.device d = some dv) (ht : dv.Tame (s.claimed d) dv') (hl : dv.LossTame dv')
    (himage : s.imageLaw = true → (s.setDevice d dv').imageLaw = true) : s.KeepsLaws (s.setDevice d dv') :=
  ⟨State.keeps_setDevice hd ht himage, State.keepsFlights_setDevice hd ht himage, State.keepsLosses_setDevice hd hl himage⟩

end

end Sys2Proof.Machine

/-! The shared operations keep the laws: answers, notices, the completion test, re-examinations, loads, switches and the end
of a claim. -/

namespace Sys2Proof.Machine

/-! ### Notice lists (R139, R140) -/

theorem distinctKeys_iff_pairwise (ns : List Notice) :
    distinctKeys ns = true ↔ ns.Pairwise fun m n => m.sameKey n = false := by
  induction ns with
  | nil => simp [distinctKeys]
  | cons n ns ih => simp [distinctKeys, ih]

theorem Notice.sameKey_comm (m n : Notice) : m.sameKey n = n.sameKey m := by
  simp [Notice.sameKey, eq_comm]

/-- Two notices that share their keys with a third share them with each other. -/
theorem Notice.sameKey_of_left {l m n : Notice} (h : n.sameKey m = true) : n.sameKey l = m.sameKey l := by
  simp only [Notice.sameKey, Bool.and_eq_true, decide_eq_true_eq] at h
  simp [Notice.sameKey, h.1, h.2]

theorem PortSide.noticeLaw_iff {q : PortSide} :
    q.noticeLaw = true ↔ q.notices.length ≤ 16 ∧ q.notices.Pairwise fun m n => m.sameKey n = false := by
  simp [PortSide.noticeLaw, distinctKeys_iff_pairwise]

/-- A notice that takes the place of those of its key leaves the keys of the list as they are. -/
theorem sameKey_replace (n x y : Notice) :
    Notice.sameKey (if n.sameKey x then n else x) (if n.sameKey y then n else y) = x.sameKey y := by
  have hx : n.sameKey x = true → n.sameKey y = x.sameKey y := Notice.sameKey_of_left
  have hy : n.sameKey y = true → x.sameKey n = x.sameKey y := fun h => by
    rw [Notice.sameKey_comm x n, Notice.sameKey_comm x y]
    exact Notice.sameKey_of_left h
  have hself : n.sameKey n = true := by simp [Notice.sameKey]
  by_cases h : n.sameKey x = true <;> by_cases k : n.sameKey y = true <;> simp_all

theorem PortSide.noticeLaw_post (n : Notice) {q : PortSide} (h : q.noticeLaw = true) : (q.post n).noticeLaw = true := by
  unfold PortSide.post
  split
  · split
    · rw [PortSide.noticeLaw_iff] at h ⊢
      refine ⟨by simpa using h.1, ?_⟩
      rw [List.pairwise_map]
      exact h.2.imp fun {x y} hxy => (sameKey_replace n x y).trans hxy
    next hnew =>
      split
      next hroom =>
        rw [PortSide.noticeLaw_iff] at h ⊢
        refine ⟨by simpa using hroom, List.pairwise_append.mpr ⟨h.2, List.pairwise_singleton _ _, fun m hm x hx => ?_⟩⟩
        rw [List.mem_singleton.mp hx, Notice.sameKey_comm]
        exact eq_false_of_ne_true fun hkey => hnew (List.any_eq_true.mpr ⟨m, hm, hkey⟩)
      next => exact h
  · exact h

theorem State.noticeLaw_iff {s : State} : s.noticeLaw = true ↔ ∀ p, (s.port p).noticeLaw = true := by
  rw [State.noticeLaw, Bool.and_eq_true]
  exact ⟨fun h p => match p with
    | .h => h.1
    | .l => h.2, fun h => ⟨h .h, h .l⟩⟩

theorem State.noticeLaw_modPort {s : State} {p : Port} {f : PortSide → PortSide}
    (hf : (s.port p).noticeLaw = true → (f (s.port p)).noticeLaw = true) (h : s.noticeLaw = true) :
    (s.modPort p f).noticeLaw = true := by
  rw [State.noticeLaw_iff] at h ⊢
  intro q
  simp only [State.port, State.modPort_ports, PerPort.get_set]
  split
  next hq => exact hf (h p)
  next => exact h q

/-! ### Changes of the ports -/

section
variable {s t : State}

theorem State.keepsLaws_modPort {p : Port} {f : PortSide → PortSide}
    (hf : (s.port p).noticeLaw = true → (f (s.port p)).noticeLaw = true) : s.KeepsLaws (s.modPort p f) :=
  State.SameContext.keepsLaws
    ⟨rfl, rfl, rfl, rfl, rfl, rfl, State.noticeLaw_modPort hf, State.idleLaw_congr rfl rfl (.inr rfl) rfl rfl⟩ rfl rfl

theorem State.keepsLaws_answerPort (s : State) (p : Port) (f : Outstanding → Option (OutcomeCode × Payload)) :
    s.KeepsLaws (s.answerPort p f) :=
  State.keepsLaws_modPort id

theorem State.keepsLaws_answer (s : State) (f : Outstanding → Option (OutcomeCode × Payload)) :
    s.KeepsLaws (s.answer f) :=
  (State.keepsLaws_answerPort s .h f).trans (State.keepsLaws_answerPort _ .l f)

theorem State.keepsLaws_postTo (s : State) (p : Port) (n : Notice) : s.KeepsLaws (s.postTo p n) :=
  State.keepsLaws_modPort (PortSide.noticeLaw_post n)

theorem State.keepsLaws_post (s : State) (n : Notice) : s.KeepsLaws (s.post n) :=
  (State.keepsLaws_postTo s .h n).trans (State.keepsLaws_postTo _ .l n)

theorem State.keepsLaws_respond (s : State) (p : Port) (tag : Byte) (o : OutcomeCode) (pl : Payload) :
    s.KeepsLaws (s.respond p tag o pl) :=
  State.keepsLaws_modPort id

theorem State.keepsLaws_await (s : State) (p : Port) (o : Outstanding) : s.KeepsLaws (s.await p o) :=
  State.keepsLaws_modPort id

theorem State.keepsLaws_answerSettled (before s : State) (d : DevNum) : s.KeepsLaws (State.answerSettled before d s) := by
  unfold State.answerSettled
  split
  · split
    · exact State.keepsLaws_answer _ _
    · exact .refl s
  · exact .refl s

theorem State.keepsLaws_setLate (s : State) (d : DevNum) (p : Port) (m : LateMark) : s.KeepsLaws (s.setLate d p m) :=
  State.SameContext.keepsLaws ⟨rfl, rfl, rfl, rfl, rfl, rfl, id, State.idleLaw_congr rfl rfl (.inr rfl) rfl rfl⟩ rfl rfl

/-! ### The transition's count and its completion (R119, R121) -/

/-- A change of the profile controller that leaves the target and the deferred devices as they are. -/
theorem State.keepsLaws_profiles {c : ProfileController} (hp : c.target = s.profiles.target)
    (ht : c.transition.map Transition.deferred = s.profiles.transition.map Transition.deferred) :
    s.KeepsLaws { s with profiles := c } :=
  State.SameContext.keepsLaws ⟨rfl, hp, ht, rfl, rfl, rfl, id, State.idleLaw_congr rfl rfl (.inr rfl) rfl rfl⟩ rfl rfl

theorem State.keepsLaws_counting (s : State) (n : Nat) :
    s.KeepsLaws { s with profiles := s.profiles.counting n } :=
  State.keepsLaws_profiles rfl (by
    rw [ProfileController.counting, Option.map_map]
    rfl)

theorem State.keepsLaws_addUnapplied (s : State) (n : Nat) : s.KeepsLaws (s.addUnapplied n) := by
  rw [State.addUnapplied_eq_counting]
  exact State.keepsLaws_counting s n

theorem State.imageLaw_congr (hd : t.devices = s.devices) (ha : t.bankA = s.bankA) (hb : t.bankB = s.bankB)
    (hr : t.save.record = s.save.record) (h : s.imageLaw = true) : t.imageLaw = true :=
  State.imageLaw_of_shape (fun d => by rw [State.device, hd, State.device]) ha hb hr h

/-- A transition with no mark and no deferred device left can be removed. -/
theorem State.keepsLaws_noTransition {tr : Transition} (ht : s.profiles.transition = some tr) (hm : s.anyMark = false)
    (hd : tr.anyDeferred = false) : s.KeepsLaws { s with profiles := { s.profiles with transition := none } } := by
  have himage := State.imageLaw_congr (s := s) (t := { s with profiles := { s.profiles with transition := none } })
    rfl rfl rfl rfl
  rw [State.anyMark_eq_false_iff] at hm
  rw [Transition.anyDeferred, anyDevice_eq_false_iff] at hd
  refine ⟨⟨himage, fun hs hp => ⟨hs, ?_⟩, fun _ => ?_, fun _ => id, id, State.idleLaw_congr rfl rfl (.inr rfl) rfl rfl⟩,
    fun ha hf => ⟨ha, hf⟩, id⟩
  · rw [State.profileLaw_iff] at hp ⊢
    intro d dv hdv
    refine .inl ((hp d dv hdv).resolve_right fun h => ?_)
    simp [State.deferred, ht, hd] at h
  · rw [State.markLaw_iff]
    intro d dv hdv e he hmark
    exact absurd hmark (by simp [hm d dv hdv e he])

theorem State.keepsLaws_completionTest (s : State) : s.KeepsLaws s.completionTest := by
  unfold State.completionTest
  split
  next tr ht =>
    split
    · exact .refl s
    next hleft =>
      simp only [Bool.or_eq_true, not_or, Bool.not_eq_true] at hleft
      have hsettled := (State.keepsLaws_post s (.profileSettled tr.target tr.unapplied)).trans
        (State.keepsLaws_answer _ (completionAnswer tr.unapplied))
      exact hsettled.trans (State.keepsLaws_noTransition ht hleft.1 hleft.2)
  · exact .refl s

/-! ### Re-examination (R33, R36) -/

/-- Whatever the entries, re-examination brings RUNNING and DIVERGED in line with them. -/
theorem Device.failLaw_reexamine (granted : Bool) (dv : Device) : (dv.reexamine granted).failLaw = true := by
  have hfailed : (dv.reexamine granted).anyFailed = dv.anyFailed := by
    rw [Device.anyFailed, Device.entries_reexamine, Device.anyFailed]
  rw [Device.failLaw, hfailed, Device.state_reexamine]
  cases dv.anyFailed <;> cases dv.state <;> rfl

theorem Device.state_reexamine_iff {granted : Bool} {dv : Device} {st : DevState} (hr : st ≠ .running)
    (hd : st ≠ .diverged) : (dv.reexamine granted).state = st ↔ dv.state = st := by
  rw [Device.state_reexamine]
  cases hst : dv.state <;> cases dv.anyFailed <;> simp [hr.symm, hd.symm]

@[simp] theorem Device.params_reexamine (granted : Bool) (dv : Device) : (dv.reexamine granted).params = dv.params := by
  rw [Device.reexamine_eq]

@[simp] theorem Device.profile_reexamine (granted : Bool) (dv : Device) : (dv.reexamine granted).profile = dv.profile := by
  rw [Device.reexamine_eq]

@[simp] theorem Device.losses_reexamine (granted : Bool) (dv : Device) : (dv.reexamine granted).losses = dv.losses := by
  rw [Device.reexamine_eq]

@[simp] theorem Device.shape_reexamine (granted : Bool) (dv : Device) : (dv.reexamine granted).shape = dv.shape := by
  rw [Device.shape, Device.params_reexamine, Device.entries_reexamine, Device.shape]

/-- A record with the same count and limit, FENCED and LOADING where it was. -/
theorem Device.LossTame.of_state {dv dv' : Device} (hp : dv'.params = dv.params) (hl : dv'.losses = dv.losses)
    (hf : dv'.state = .fenced ↔ dv.state = .fenced) (hload : dv.state = .loading → dv'.state = .loading) :
    dv.LossTame dv' := by
  refine ⟨fun _ h => ?_, hload⟩
  rw [Device.lossLaw] at h ⊢
  simpa only [hf, hp, hl] using h

theorem Device.lossTame_reexamine {dv dv' : Device} (granted : Bool) (hp : dv'.params = dv.params)
    (hl : dv'.losses = dv.losses) (hst : dv'.state = dv.state) : dv.LossTame (dv'.reexamine granted) := by
  refine .of_state (by simpa using hp) (by simpa using hl) ?_ fun h => ?_
  · rw [Device.state_reexamine_iff (by simp) (by simp), hst]
  · rw [Device.state_reexamine_iff (by simp) (by simp), hst, h]

/-- A re-examined record whose entries claim no more than before. -/
theorem Device.tame_reexamine {c : Bool} {dv dv' : Device} (granted : Bool) (hp : dv'.profile = dv.profile)
    (he : ∀ e' ∈ dv'.entries, e'.Fresh ∨ ∃ e ∈ dv.entries, e.Tame c dv.profile e') :
    dv.Tame c (dv'.reexamine granted) :=
  ⟨by simpa using hp, by simpa [Device.entries_reexamine] using he, fun _ => Device.failLaw_reexamine granted dv'⟩

/-- The record of a device whose entries change one by one, re-examined. -/
theorem State.keepsLaws_editEntries {d : DevNum} {dv : Device} {f : Entry → Entry} (hd : s.device d = some dv)
    (hreg : ∀ e ∈ dv.entries, (f e).register = e.register)
    (hf : ∀ e ∈ dv.entries, e.Tame (s.claimed d) dv.profile (f e)) (granted : Bool) :
    s.KeepsLaws (s.setDevice d (Device.reexamine granted { dv with entries := dv.entries.map f })) := by
  refine State.keepsLaws_setDevice hd (Device.tame_reexamine granted rfl fun e' he' => ?_)
    (Device.lossTame_reexamine granted rfl rfl rfl) (State.imageLaw_setDevice hd ?_)
  · obtain ⟨e, hmem, rfl⟩ := List.mem_map.mp he'
    exact .inr ⟨e, hmem, hf e hmem⟩
  · rw [Device.shape_reexamine]
    simp only [Device.shape, List.map_map]
    exact congrArg _ (List.map_congr_left hreg)

end

end Sys2Proof.Machine

/-! The shared operations keep the laws: loads, cleared marks, switches and the end of a claim. -/

namespace Sys2Proof.Machine

/-! ### Committed changes and loads, entry by entry -/

theorem Entry.isUnsettled_moved (e : Entry) : e.moved.isUnsettled = true := by
  rw [Entry.moved_eq]
  cases e.state <;> rfl

theorem Entry.isApplied_moved (e : Entry) : e.moved.isApplied = false := by
  rw [Entry.moved_eq]
  cases h : e.state <;> rfl

theorem Entry.isInFlight_moved (e : Entry) : e.moved.isInFlight = e.isInFlight := by
  rw [Entry.moved_eq]
  cases h : e.state <;> simp [Entry.isInFlight, h]

section
variable {f : Entry → Entry} {p p' : Profile} {st : DevState} {c : Bool}

theorem Entry.hasStaged_change (f : Entry → Entry) (p p' : Profile) (st : DevState) (e : Entry) :
    (e.change f p p' st).hasStaged = (f e).hasStaged := by
  rcases Entry.change_cases f p p' st e with ⟨-, h⟩ | ⟨-, h⟩ <;> rw [h]
  exact Entry.hasStaged_moved (f e)

/-- A committed change leaves an APPLIED entry only with its desired value, and no entry IN_FLIGHT that was not. -/
theorem Entry.held_change (hf : Entry.SlotChange f) (e : Entry) : e.Held p p' (e.change f p p' st) := by
  rcases Entry.change_cases f p p' st e with ⟨heq, h⟩ | ⟨-, h⟩ <;> rw [h]
  · refine ⟨fun ha hap => ?_, fun hin => ⟨?_, hf.register e⟩⟩
    · rw [hf.applied, heq]
      exact ha (by simpa only [Entry.isApplied, hf.state] using hap)
    · simpa only [Entry.isInFlight, hf.state] using hin
  · refine ⟨fun _ hap => ?_, fun hin => ⟨?_, ?_⟩⟩
    · have hmoved : (f e).moved.isApplied = true := hap
      exact absurd hmoved (by simp [Entry.isApplied_moved])
    · have hin : (f e).moved.isInFlight = true := hin
      rw [Entry.isInFlight_moved] at hin
      simpa only [Entry.isInFlight, hf.state] using hin
    · exact (Entry.register_moved (f e)).trans (hf.register e)

/-- A committed change sets a mark on an unsettled entry alone, and only where the change of profile moves the value. -/
theorem Entry.mark_change (hf : Entry.SlotChange f) {e : Entry} (hm : (e.change f p p' st).mark = true) :
    (e.mark = true ∨ p' ≠ p) ∧ (e.mark = true ∧ e.isUnsettled = true → (e.change f p p' st).isUnsettled = true) ∧
      (e.mark = false → (e.change f p p' st).isUnsettled = true) := by
  rcases Entry.change_cases f p p' st e with ⟨-, h⟩ | ⟨-, h⟩ <;> rw [h] at hm ⊢
  · rw [hf.mark] at hm
    refine ⟨.inl hm, fun hu => ?_, fun hno => absurd hm (by simp [hno])⟩
    simpa only [Entry.isUnsettled, Entry.isPending, Entry.isInFlight, hf.state] using hu.2
  · refine ⟨?_, fun _ => (f e).isUnsettled_moved, fun _ => (f e).isUnsettled_moved⟩
    simp only [hf.mark, Bool.or_eq_true, Bool.and_eq_true, decide_eq_true_eq] at hm
    exact hm.imp_right fun hmoved heq => hmoved.2 (by rw [heq])

/-- A committed change of slots alone claims no more, where it adds no staged content on an unclaimed device. -/
theorem Entry.tame_change (hf : Entry.SlotChange f) {e : Entry}
    (hs : (f e).hasStaged = true → e.hasStaged = true ∨ c = true) : e.Tame c p (e.change f p p st) where
  toHeld := Entry.held_change hf e
  staged h := hs (by rwa [Entry.hasStaged_change] at h)
  mark h := by
    obtain ⟨hmark, hkept, -⟩ := Entry.mark_change hf h
    have hmark := hmark.resolve_right (fun h => h rfl)
    exact ⟨hmark, fun hu => hkept ⟨hmark, hu⟩⟩

end

theorem Entry.tame_unload (c : Bool) (p : Profile) (e : Entry) : e.Tame c p e.unload :=
  ⟨⟨fun _ h => Bool.noConfusion h, fun h => Bool.noConfusion h⟩, .inl, fun h => ⟨h, fun _ => rfl⟩⟩

theorem Entry.tame_clearMark (c : Bool) (p : Profile) (e : Entry) : e.Tame c p { e with mark := false } :=
  ⟨⟨id, fun h => ⟨h, rfl⟩⟩, .inl, fun h => Bool.noConfusion h⟩

theorem Device.failLaw_of_state {dv : Device} (hr : dv.state ≠ .running) (hd : dv.state ≠ .diverged) :
    dv.failLaw = true := by
  simp [Device.failLaw, hr, hd]

theorem Device.tame_beginLoad (c : Bool) (dv : Device) : dv.Tame c dv.beginLoad :=
  .map dv.profile_beginLoad rfl (fun e _ => e.tame_unload c _) fun _ =>
    Device.failLaw_of_state (by simp) (by simp)

theorem Device.shape_beginLoad (dv : Device) : dv.beginLoad.shape = dv.shape := by
  simp only [Device.shape, Device.params_beginLoad, Device.entries_beginLoad, List.map_map]
  exact congrArg _ (List.map_congr_left fun _ _ => rfl)

section
variable {s : State} {d : DevNum} {dv : Device}

/-- A load begins on a device that is not FENCED. -/
theorem Device.lossTame_beginLoad (h : dv.state ≠ .fenced) : dv.LossTame dv.beginLoad :=
  .of_state dv.params_beginLoad dv.losses_beginLoad (by simp [h]) fun _ => rfl

theorem State.beginLoad_of_device (hd : s.device d = some dv) : s.beginLoad d = s.setDevice d dv.beginLoad :=
  State.modDevice_of_some hd _

theorem State.keepsLaws_beginLoad (hd : s.device d = some dv) (h : dv.state ≠ .fenced) :
    s.KeepsLaws (s.setDevice d dv.beginLoad) :=
  State.keepsLaws_setDevice hd (dv.tame_beginLoad _) (Device.lossTame_beginLoad h)
    (State.imageLaw_setDevice hd dv.shape_beginLoad)

/-! ### Marks cleared (R119) -/

theorem Device.failLaw_congr {dv dv' : Device} (hst : dv'.state = dv.state) (hf : dv'.anyFailed = dv.anyFailed)
    (h : dv.failLaw = true) : dv'.failLaw = true := by
  rwa [Device.failLaw, hst, hf]

theorem State.keepsLaws_clearMarks (s : State) (d : DevNum) : s.KeepsLaws (s.clearMarks d) := by
  cases hd : s.device d with
  | none =>
    rw [show s.clearMarks d = s by simp only [State.clearMarks, hd]]
    exact .refl s
  | some dv =>
    rw [State.clearMarks_of_device hd]
    split
    · exact .refl s
    · refine State.KeepsLaws.trans ?_ (State.keepsLaws_completionTest _)
      refine State.KeepsLaws.trans ?_ (State.keepsLaws_counting _ _)
      refine State.keepsLaws_setDevice hd (.map rfl rfl (fun e _ => e.tame_clearMark _ _) fun h => ?_)
        (.of_state rfl rfl Iff.rfl id) (State.imageLaw_setDevice hd ?_)
      · refine Device.failLaw_congr (by rfl) ?_ h
        simp only [Device.anyFailed, List.any_map]
        rfl
      · simp only [Device.shape, List.map_map]
        rfl

end

/-! ### Switches (R116, R117) -/

section
variable {s : State}

theorem State.noticeLaw_eachPort {s t : State} {f : PortSide → PortSide} (ht : t.ports = s.eachPort f)
    (hf : ∀ q : PortSide, q.noticeLaw = true → (f q).noticeLaw = true) (h : s.noticeLaw = true) : t.noticeLaw = true := by
  rw [State.noticeLaw_iff] at h ⊢
  intro p
  rw [State.port, ht]
  cases p with
  | h => exact hf _ (h .h)
  | l => exact hf _ (h .l)

/-- A device's record after a switch to P, before it is re-examined (R117). -/
def Device.switched (claimed : Bool) (P : Profile) (dv : Device) : Device :=
  if claimed = true then dv else dv.change id P

theorem State.device_switched (s : State) (P : Profile) (d : DevNum) :
    (s.switched P).device d =
      (s.device d).map fun dv => Device.reexamine (s.markerGranted d) (dv.switched (s.claimed d) P) :=
  PerDevice.get_ofFn _ d

theorem Device.shape_switched (c : Bool) (P : Profile) (dv : Device) : (dv.switched c P).shape = dv.shape := by
  unfold Device.switched
  split
  · rfl
  · simp only [Device.shape, Device.change, List.map_map]
    exact congrArg _ (List.map_congr_left fun e _ => Entry.register_change Entry.slotChange_id)

theorem Device.state_switched (c : Bool) (P : Profile) (dv : Device) :
    (dv.switched c P).params = dv.params ∧ (dv.switched c P).losses = dv.losses ∧
      (dv.switched c P).state = dv.state := by
  unfold Device.switched
  split <;> exact ⟨rfl, rfl, rfl⟩

/-- The entry of an unclaimed device as the switch moves and marks it; a claimed device's entries stay. -/
theorem Device.mem_switched {c : Bool} {P : Profile} {dv : Device} {e' : Entry} (h : e' ∈ (dv.switched c P).entries) :
    ∃ e ∈ dv.entries, (c = true ∧ e' = e) ∨ (c = false ∧ e' = e.change id dv.profile P dv.state) := by
  unfold Device.switched at h
  cases c with
  | true => exact ⟨e', h, .inl ⟨rfl, rfl⟩⟩
  | false =>
    obtain ⟨e, he, rfl⟩ := List.mem_map.mp h
    exact ⟨e, he, .inr ⟨rfl, rfl⟩⟩

theorem Device.profile_switched (c : Bool) (P : Profile) (dv : Device) :
    (dv.switched c P).profile = if c = true then dv.profile else P := by
  unfold Device.switched
  split <;> rfl

theorem Device.held_switched (granted c : Bool) (P : Profile) (dv : Device) :
    dv.Held (Device.reexamine granted (dv.switched c P)) := by
  intro e' he'
  rw [Device.entries_reexamine] at he'
  rw [Device.profile_reexamine, Device.profile_switched]
  obtain ⟨e, he, ⟨rfl, rfl⟩ | ⟨rfl, rfl⟩⟩ := Device.mem_switched he'
  · exact .inr ⟨e', he, (Entry.Tame.refl true _ e').toHeld⟩
  · exact .inr ⟨e, he, Entry.held_change Entry.slotChange_id e⟩

theorem State.deferred_switched (s : State) (P : Profile) (d : DevNum) :
    (s.switched P).deferred d = match s.device d with
      | some dv => (s.claim d).isSome && decide (dv.profile ≠ P)
      | none => false :=
  PerDevice.get_ofFn _ d

theorem State.keepsLaws_switched (s : State) (P : Profile) : s.KeepsLaws (s.switched P) := by
  have hdevice : ∀ {d dv'}, (s.switched P).device d = some dv' →
      ∃ dv, s.device d = some dv ∧ Device.reexamine (s.markerGranted d) (dv.switched (s.claimed d) P) = dv' :=
    fun {d dv'} h => Option.map_eq_some_iff.mp ((s.device_switched P d).symm.trans h)
  have himage : s.imageLaw = true → (s.switched P).imageLaw = true := by
    refine State.imageLaw_of_shape (fun d => ?_) rfl rfl rfl
    rw [State.device_switched, Option.map_map]
    exact Option.map_congr fun dv _ => by simp [Device.shape_switched]
  refine ⟨⟨himage, fun hs _ => ⟨?_, ?_⟩, fun hm => ?_, fun _ _ => ?_, ?_,
    State.idleLaw_congr rfl rfl (.inr rfl) rfl rfl⟩, ?_, ?_⟩
  · rw [State.stagedLaw_iff] at hs ⊢
    intro d dv' hd' e' he' hst
    obtain ⟨dv, hd, rfl⟩ := hdevice hd'
    rw [Device.entries_reexamine] at he'
    obtain ⟨e, he, ⟨-, rfl⟩ | ⟨-, rfl⟩⟩ := Device.mem_switched he'
    · exact hs d dv hd e' he hst
    · exact hs d dv hd e he (by rwa [Entry.hasStaged_change] at hst)
  · rw [State.profileLaw_iff]
    intro d dv' hd'
    obtain ⟨dv, hd, rfl⟩ := hdevice hd'
    rw [Device.profile_reexamine, Device.profile_switched, State.deferred_switched, hd]
    change (if s.claimed d = true then dv.profile else P) = P ∨ s.claimed d = true ∧ _
    cases hc : s.claimed d with
    | false => exact .inl rfl
    | true =>
      by_cases hp : dv.profile = P
      · exact .inl hp
      · exact .inr ⟨rfl, (Bool.and_eq_true _ _).mpr ⟨hc, decide_eq_true hp⟩⟩
  · rw [State.markLaw_iff] at hm ⊢
    intro d dv' hd' e' he' hmark
    obtain ⟨dv, hd, rfl⟩ := hdevice hd'
    rw [Device.entries_reexamine] at he'
    refine ⟨?_, rfl⟩
    obtain ⟨e, he, ⟨-, rfl⟩ | ⟨-, rfl⟩⟩ := Device.mem_switched he'
    · exact (hm d dv hd e' he hmark).1
    · obtain ⟨-, hkept, hnew⟩ := Entry.mark_change Entry.slotChange_id hmark
      cases hem : e.mark with
      | true => exact hkept ⟨hem, (hm d dv hd e he hem).1⟩
      | false => exact hnew hem
  · rw [State.failLaw_iff]
    intro d dv' hd'
    obtain ⟨dv, -, rfl⟩ := hdevice hd'
    exact Device.failLaw_reexamine _ _
  · intro h
    by_cases hsome : s.profiles.transition.isSome = true
    · exact State.noticeLaw_eachPort (if_pos hsome) (fun _ => id) h
    · have hports : (s.switched P).ports = s.ports := if_neg hsome
      rw [State.noticeLaw_iff] at h ⊢
      intro p
      rw [State.port, hports]
      exact h p
  · refine State.keepsFlights_of_edits himage (fun d dv' hd' => ?_) (State.carries_of_txn rfl)
    obtain ⟨dv, hd, rfl⟩ := hdevice hd'
    exact ⟨dv, hd, Device.held_switched _ _ _ _⟩
  · refine State.keepsLosses_of_edits himage (fun _ => id) fun d => ?_
    rw [State.device_switched]
    cases s.device d with
    | none => exact .none
    | some dv =>
      obtain ⟨hp, hl, hst⟩ := Device.state_switched (s.claimed d) P dv
      exact .some (Device.lossTame_reexamine _ hp hl hst)

theorem State.keepsLaws_lineSwitch (s : State) (P : Profile) : s.KeepsLaws (s.lineSwitch P) := by
  unfold State.lineSwitch
  split
  · exact .refl s
  · rw [State.switchTo_eq_switched]
    exact (State.keepsLaws_switched s P).trans (State.keepsLaws_completionTest _)

theorem State.keepsLaws_lineChange (s : State) : s.KeepsLaws s.lineChange := by
  unfold State.lineChange
  split
  next level _ =>
    have hline : s.KeepsLaws
        { s with profiles := { s.profiles with lineLevel := level, candidate := none, candidateTime := 0 } } :=
      State.keepsLaws_profiles rfl rfl
    simp only []
    split
    · exact hline.trans (State.keepsLaws_lineSwitch _ _)
    · exact hline
  · exact .refl s

end

end Sys2Proof.Machine

/-! The end of a claim, in every way that it comes about, keeps the laws (R100 to R105, R120). -/

namespace Sys2Proof.Machine

section
variable {s t : State} {d : DevNum} {dv : Device} {put : Entry → Entry}

/-- The record of a device as the end of its claim leaves it, re-examined. -/
def State.recordAfterClaim (s : State) (d : DevNum) (dv : Device) (put : Entry → Entry) : Device :=
  Device.reexamine (s.markerGranted d) (dv.change put (s.profileAfterClaim d dv))

theorem State.recordAfterClaim_profile : (s.recordAfterClaim d dv put).profile = s.profileAfterClaim d dv := by
  rw [State.recordAfterClaim, Device.profile_reexamine]
  rfl

theorem State.mem_recordAfterClaim {e' : Entry} (h : e' ∈ (s.recordAfterClaim d dv put).entries) :
    ∃ e ∈ dv.entries, e.change put dv.profile (s.profileAfterClaim d dv) dv.state = e' := by
  rw [State.recordAfterClaim, Device.entries_reexamine] at h
  exact List.mem_map.mp h

theorem State.recordAfterClaim_shape (hput : Entry.SlotChange put) :
    (s.recordAfterClaim d dv put).shape = dv.shape := by
  rw [State.recordAfterClaim, Device.shape_reexamine]
  simp only [Device.shape, Device.change, List.map_map]
  exact congrArg _ (List.map_congr_left fun _ _ => Entry.register_change hput)

/-- The profile in effect moves at the end of a claim only where the switch to it was deferred (R120). -/
theorem State.profileAfterClaim_eq (h : s.deferred d = false) : s.profileAfterClaim d dv = dv.profile := by
  simp [State.profileAfterClaim, h]

theorem State.transition_isSome_of_deferred (h : s.deferred d = true) : s.profiles.transition.isSome = true := by
  cases ht : s.profiles.transition with
  | none => simp [State.deferred, ht] at h
  | some _ => rfl

/-- A device whose claim is gone, with its record as the end of the claim leaves it and the other devices as deferred as
before. -/
structure State.ClaimGone (s t : State) (d : DevNum) (dv : Device) (put : Entry → Entry) : Prop where
  device : s.device d = some dv
  devices : ∀ e, t.device e = if e = d then some (s.recordAfterClaim d dv put) else s.device e
  claimed : ∀ e, e ≠ d → t.claimed e = s.claimed e
  target : t.profiles.target = s.profiles.target
  deferred : ∀ e, e ≠ d → t.deferred e = s.deferred e
  transition : t.profiles.transition.isSome = s.profiles.transition.isSome
  txn : t.txn = s.txn
  image : s.imageLaw = true → t.imageLaw = true
  notices : s.noticeLaw = true → t.noticeLaw = true
  idle : s.idleLaw = true → t.idleLaw = true

theorem State.ClaimGone.cases (h : s.ClaimGone t d dv put) {e : DevNum} {ev : Device} (he : t.device e = some ev) :
    e = d ∧ ev = s.recordAfterClaim d dv put ∨ e ≠ d ∧ s.device e = some ev := by
  rw [h.devices] at he
  split at he
  next heq => exact .inl ⟨heq, (Option.some.inj he).symm⟩
  next hne => exact .inr ⟨hne, he⟩

theorem State.ClaimGone.keepsLaws (h : s.ClaimGone t d dv put) (hput : Entry.SlotChange put)
    (hclear : ∀ e, (put e).hasStaged = false) : s.KeepsLaws t := by
  refine ⟨⟨h.image, fun hs hp => ⟨?_, ?_⟩, fun hm => ?_, fun _ hf => ?_, h.notices, h.idle⟩, ?_, ?_⟩
  · rw [State.stagedLaw_iff] at hs ⊢
    intro e ev he x hx hst
    rcases h.cases he with ⟨-, rfl⟩ | ⟨hne, hev⟩
    · obtain ⟨y, -, rfl⟩ := State.mem_recordAfterClaim hx
      rw [Entry.hasStaged_change, hclear] at hst
      exact Bool.noConfusion hst
    · rw [h.claimed e hne]
      exact hs e ev hev x hx hst
  · rw [State.profileLaw_iff] at hp ⊢
    intro e ev he
    rw [h.target]
    rcases h.cases he with ⟨-, rfl⟩ | ⟨hne, hev⟩
    · rw [State.recordAfterClaim_profile, State.profileAfterClaim]
      split
      next => exact .inl rfl
      next hdef => exact .inl ((hp d dv h.device).resolve_right fun hc => hdef hc.2)
    · rw [h.claimed e hne, h.deferred e hne]
      exact hp e ev hev
  · rw [State.markLaw_iff] at hm ⊢
    intro e ev he x hx hmark
    rw [h.transition]
    rcases h.cases he with ⟨-, rfl⟩ | ⟨-, hev⟩
    · obtain ⟨y, hy, rfl⟩ := State.mem_recordAfterClaim hx
      obtain ⟨hwhy, hkept, hnew⟩ := Entry.mark_change hput hmark
      cases hym : y.mark with
      | true => exact ⟨hkept ⟨hym, (hm d dv h.device y hy hym).1⟩, (hm d dv h.device y hy hym).2⟩
      | false =>
        refine ⟨hnew hym, State.transition_isSome_of_deferred (d := d) ?_⟩
        have hmoved := hwhy.resolve_left (by simp [hym])
        by_contra hdef
        exact hmoved (State.profileAfterClaim_eq (eq_false_of_ne_true hdef))
    · exact hm e ev hev x hx hmark
  · rw [State.failLaw_iff] at hf ⊢
    intro e ev he
    rcases h.cases he with ⟨-, rfl⟩ | ⟨-, hev⟩
    · exact Device.failLaw_reexamine _ _
    · exact hf e ev hev
  · refine State.keepsFlights_of_edits h.image (fun e ev he => ?_) (State.carries_of_txn h.txn)
    rcases h.cases he with ⟨rfl, rfl⟩ | ⟨-, hev⟩
    · refine ⟨dv, h.device, fun x hx => ?_⟩
      obtain ⟨y, hy, rfl⟩ := State.mem_recordAfterClaim hx
      rw [State.recordAfterClaim_profile]
      exact .inr ⟨y, hy, Entry.held_change hput y⟩
    · exact ⟨ev, hev, (Device.Tame.refl false ev).held⟩
  · refine State.keepsLosses_of_edits h.image (fun e he => (State.markerGranted_of_txn h.txn e).symm.trans he)
      fun e => ?_
    rw [h.devices]
    split
    next heq =>
      rw [heq, h.device]
      exact .some (Device.lossTame_reexamine _ rfl rfl rfl)
    next => exact Device.rel_lossTame_refl _

/-- The end of a claim, with the profile controller c that it leaves before the completion test. -/
theorem State.claimGone_of_record {c : ProfileController} {f : Transition → Transition} (hd : s.device d = some dv)
    (hput : Entry.SlotChange put) (htarget : c.target = s.profiles.target)
    (htr : c.transition = s.profiles.transition.map f)
    (hf : ∀ tr e, e ≠ d → (f tr).deferred.get e = tr.deferred.get e) :
    s.ClaimGone
      { s with
        claims := s.claims.set d none
        devices := s.devices.set d (some (s.recordAfterClaim d dv put))
        profiles := c } d dv put where
  device := hd
  devices e := PerDevice.get_set _ _ _ _
  claimed e he := by
    simp only [State.claimed, State.claim]
    rw [PerDevice.get_set_ne _ he]
  target := htarget
  deferred e he := by
    simp only [State.deferred, htr]
    cases s.profiles.transition with
    | none => rfl
    | some tr => exact hf tr e he
  transition := by simp only [htr, Option.isSome_map]
  txn := rfl
  image := by
    refine State.imageLaw_of_shape (fun e => ?_) rfl rfl rfl
    rw [State.device, PerDevice.get_set]
    split
    next heq => rw [heq, hd, Option.map_some, Option.map_some, State.recordAfterClaim_shape hput]
    next => rfl
  notices := id
  idle := State.idleLaw_congr rfl rfl (.inr rfl) rfl rfl

theorem State.keepsLaws_claimEnded (hd : s.device d = some dv) (hput : Entry.SlotChange put)
    (hclear : ∀ e, (put e).hasStaged = false) : s.KeepsLaws (s.claimEnded d dv put) := by
  unfold State.claimEnded
  split
  next hdef =>
    refine State.KeepsLaws.trans ?_ (State.keepsLaws_completionTest _)
    have hrec : s.recordAfterClaim d dv put = Device.reexamine (s.markerGranted d)
        { dv with
          profile := s.profiles.target
          entries := dv.entries.map (Entry.change put dv.profile s.profiles.target dv.state) } := by
      simp [State.recordAfterClaim, State.profileAfterClaim, hdef, Device.change]
    rw [← hrec]
    refine State.ClaimGone.keepsLaws (State.claimGone_of_record hd hput rfl rfl ?_) hput hclear
    exact fun tr e he => PerDevice.get_set_ne _ he _
  next hdef =>
    have hrec : s.recordAfterClaim d dv put = Device.reexamine (s.markerGranted d)
        { dv with entries := dv.entries.map (Entry.change put dv.profile dv.profile dv.state) } := by
      simp [State.recordAfterClaim, State.profileAfterClaim, hdef, Device.change]
    rw [← hrec]
    exact (State.claimGone_of_record (f := id) hd hput rfl (Option.map_id_apply).symm fun _ _ _ => rfl).keepsLaws hput hclear

/-- A claim set or removed: R11 and R117 are kept where the device is absent, or claimed still. -/
theorem State.keepsLaws_setClaim {c : Option Claim} (h : s.device d = none ∨ c.isSome = true) :
    s.KeepsLaws (s.setClaim d c) := by
  have himage : s.imageLaw = true → (s.setClaim d c).imageLaw = true := State.imageLaw_congr rfl rfl rfl rfl
  have hclaimed : ∀ {e : DevNum} {ev : Device}, s.device e = some ev → s.claimed e = true →
      (s.setClaim d c).claimed e = true := by
    intro e ev he hc
    simp only [State.claimed, State.claim, State.setClaim_claims, PerDevice.get_set] at hc ⊢
    split
    next heq =>
      subst heq
      exact h.resolve_left (by simp [he])
    next => exact hc
  refine ⟨⟨himage, fun hs hp => ⟨?_, ?_⟩, fun hm => hm, fun _ hf => hf, id, State.idleLaw_congr rfl rfl (.inr rfl) rfl rfl⟩,
    fun ha hf => ⟨ha, hf⟩, fun hl => hl⟩
  · rw [State.stagedLaw_iff] at hs ⊢
    exact fun e ev he x hx hst => hclaimed he (hs e ev he x hx hst)
  · rw [State.profileLaw_iff] at hp ⊢
    exact fun e ev he => (hp e ev he).imp_right fun hc => ⟨hclaimed he hc.1, hc.2⟩

theorem State.endClaim_of_absent (hd : s.device d = none) : s.endClaim d put = s.setClaim d none := by
  simp only [State.endClaim, hd]

theorem State.keepsLaws_endClaim (s : State) (d : DevNum) (hput : Entry.SlotChange put)
    (hclear : ∀ e, (put e).hasStaged = false) : s.KeepsLaws (s.endClaim d put) := by
  cases hd : s.device d with
  | none =>
    rw [State.endClaim_of_absent hd]
    exact State.keepsLaws_setClaim (.inl hd)
  | some dv =>
    rw [State.endClaim_eq_claimEnded hd]
    exact State.keepsLaws_claimEnded hd hput hclear

theorem Entry.hasStaged_clearStaged (e : Entry) : e.clearStaged.hasStaged = false := rfl

theorem Entry.hasStaged_commitStaged (e : Entry) : e.commitStaged.hasStaged = false := rfl

/-- A claim that ends without a request, with the late mark and the notice that tell its holder. -/
theorem State.keepsLaws_endClaim_told (s : State) (d : DevNum) (p : Port) (m : LateMark) (n : Notice) :
    s.KeepsLaws (((s.setLate d p m).postTo p n).endClaim d Entry.clearStaged) :=
  ((State.keepsLaws_setLate s d p m).trans (State.keepsLaws_postTo _ p n)).trans
    (State.keepsLaws_endClaim _ d Entry.slotChange_clearStaged Entry.hasStaged_clearStaged)

theorem State.keepsLaws_expireClaim (s : State) (d : DevNum) : s.KeepsLaws (s.expireClaim d) := by
  unfold State.expireClaim
  split
  · exact State.keepsLaws_endClaim_told _ _ _ _ _
  · exact .refl s

theorem State.keepsLaws_breakClaim (s : State) (d : DevNum) : s.KeepsLaws (s.breakClaim d) := by
  unfold State.breakClaim
  split
  · exact State.keepsLaws_endClaim_told _ _ _ _ _
  · exact .refl s

theorem State.keepsLaws_tickLease (s : State) (d : DevNum) : s.KeepsLaws (s.tickLease d) := by
  unfold State.tickLease
  split
  · split
    · exact State.keepsLaws_setClaim (.inr rfl)
    · split
      · exact State.keepsLaws_setClaim (.inr rfl)
      · exact State.keepsLaws_expireClaim s d
  · exact .refl s

end

end Sys2Proof.Machine

/-! Losses and fencing: what a declared loss makes of the hub, and that it keeps the laws (R82 to R85, R105). -/

namespace Sys2Proof.Machine

section
variable {s t : State} {d e : DevNum} {dv : Device} {put : Entry → Entry}

/-! ### Marks of a device -/

theorem Entry.clearMark_of_unmarked {x : Entry} (h : x.mark = false) : { x with mark := false } = x := by
  rw [← h]

/-- Where no entry carries a mark, clearing the marks changes nothing. -/
theorem Device.map_clearMark_of_markCount (h : dv.markCount = 0) :
    dv.entries.map (fun x => { x with mark := false }) = dv.entries := by
  refine (List.map_congr_left fun x hx => Entry.clearMark_of_unmarked ?_).trans dv.entries.map_id
  exact eq_false_of_ne_true (List.countP_eq_zero.mp h x hx)

/-! ### Fencing (R84) -/

theorem entryWaitsOf_eq (d : DevNum) (c : OutcomeCode) : entryWaitsOf d c = toEntryWaitsOf d c := rfl

theorem settleWaitsOf_eq (d : DevNum) (c : OutcomeCode) : settleWaitsOf d c = toSettleWaits d fun _ => (c, .none) := rfl

/-- The record of a device as it becomes FENCED, its marks cleared. -/
def Device.fenced (dv : Device) : Device :=
  { dv with
    state := .fenced, probeDue := false, probeRemaining := dv.params.probeInterval, probeElapsed := 0
    entries := dv.entries.map fun x => { x with mark := false } }

/-- The hub as the fencing of a device leaves it before the completion test. -/
def State.fencedAt (s : State) (d : DevNum) (dv : Device) : State :=
  { s with
    devices := s.devices.set d (some dv.fenced)
    profiles := s.profiles.counting dv.markCount
    ports := s.eachPort fun q =>
      ((q.post (.deviceFenced d)).answer (toEntryWaitsOf d .fenced)).answer
        (toSettleWaits d fun _ => (.fenced, .none)) }

theorem PerDevice.set_set {α : Type} (x : PerDevice α) (d : DevNum) (a b : α) : (x.set d a).set d b = x.set d b := by
  refine PerDevice.ext_get fun e => ?_
  simp only [PerDevice.get_set]
  split <;> rfl

theorem State.fence_of_device (hd : s.device d = some dv) :
    s.fence d = if dv.markCount = 0 then s.fencedAt d dv else (s.fencedAt d dv).completionTest := by
  have hmod : s.modDevice d (fun dv => { dv.reloadTimer with state := .fenced }) =
      s.setDevice d { dv.reloadTimer with state := .fenced } := State.modDevice_of_some hd _
  simp only [State.fence, hmod]
  rw [State.clearMarks_of_device (dv := { dv.reloadTimer with state := .fenced }) (by simp [State.device])]
  have hmarks : Device.markCount { dv.reloadTimer with state := .fenced } = dv.markCount := rfl
  rw [hmarks]
  split
  next hzero =>
    rw [State.fencedAt, hzero, ProfileController.counting_zero, Device.fenced, Device.map_clearMark_of_markCount hzero,
      State.answer_eq, State.answer_eq, State.post_eq]
    rfl
  next =>
    rw [State.fencedAt, State.answer_eq, State.answer_eq, State.post_eq]
    simp only [State.setDevice, PerDevice.set_set]
    rfl

theorem State.device_fence (hd : s.device d = some dv) (e : DevNum) :
    (s.fence d).device e = if e = d then some dv.fenced else s.device e := by
  rw [State.fence_of_device hd]
  split
  · exact PerDevice.get_set _ _ _ _
  · rw [State.device, State.completionTest_devices]
    exact PerDevice.get_set _ _ _ _

/-- Fencing keeps every law but R81, which speaks of the loss count that calls for it. -/
theorem State.keeps_fence (hd : s.device d = some dv) : s.Keeps (s.fence d) ∧ s.KeepsFlights (s.fence d) := by
  have hset : s.Keeps (s.setDevice d { dv.reloadTimer with state := .fenced }) ∧
      s.KeepsFlights (s.setDevice d { dv.reloadTimer with state := .fenced }) := by
    have htame : dv.Tame (s.claimed d) { dv.reloadTimer with state := .fenced } :=
      .of_entries rfl rfl fun _ => Device.failLaw_of_state (by simp) (by simp)
    have himage := State.imageLaw_setDevice (dv' := { dv.reloadTimer with state := .fenced }) hd rfl
    exact ⟨State.keeps_setDevice hd htame himage, State.keepsFlights_setDevice hd htame himage⟩
  have hrest (u : State) : u.KeepsLaws
      ((((u.post (.deviceFenced d)).answer (entryWaitsOf d .fenced)).answer (settleWaitsOf d .fenced)).clearMarks d) :=
    (((State.keepsLaws_post u _).trans (State.keepsLaws_answer _ _)).trans (State.keepsLaws_answer _ _)).trans
      (State.keepsLaws_clearMarks _ d)
  simp only [State.fence, State.modDevice_of_some hd]
  exact ⟨hset.1.trans (hrest _).keeps, hset.2.trans (hrest _).flights⟩

/-! ### A broken claim (R105) -/

theorem State.device_endClaim (hd : s.device d = some dv) (put : Entry → Entry) (e : DevNum) :
    (s.endClaim d put).device e = if e = d then some (s.recordAfterClaim d dv put) else s.device e := by
  rw [State.endClaim_eq_claimEnded hd, State.device, State.devices_claimEnded]
  exact PerDevice.get_set _ _ _ _

/-- A loss's broken claim changes the record of its device alone, and leaves there the parameters, the count and the registers,
and whether the device is FENCED. -/
theorem State.device_breakClaim (hd : s.device d = some dv) :
    (∀ e, e ≠ d → (s.breakClaim d).device e = s.device e) ∧
      ∃ held, (s.breakClaim d).device d = some held ∧ held.losses = dv.losses ∧ held.shape = dv.shape ∧
        (held.state = .fenced ↔ dv.state = .fenced) := by
  unfold State.breakClaim
  split
  next c _ =>
    have hd' : ((s.setLate d c.holder .broken).postTo c.holder (.claimBroken d)).device d = some dv := hd
    refine ⟨fun e he => ?_, ?_⟩
    · rw [State.device_endClaim hd', if_neg he]
      rfl
    · refine ⟨_, by rw [State.device_endClaim hd', if_pos rfl], ?_, State.recordAfterClaim_shape Entry.slotChange_clearStaged, ?_⟩
      · exact Device.losses_reexamine _ _
      · rw [State.recordAfterClaim, Device.state_reexamine_iff (by simp) (by simp)]
        rfl
  · exact ⟨fun _ _ => rfl, dv, hd, rfl, rfl, Iff.rfl⟩

theorem State.device_breakClaim_of_absent (hd : s.device d = none) : (s.breakClaim d).device d = none := by
  unfold State.breakClaim
  split
  · rw [State.endClaim_of_absent (by simpa [State.device] using hd)]
    simpa [State.device] using hd
  · exact hd

/-! ### A declared loss (R82 to R85) -/

/-- The hub with a loss counted on a device and DEVICE_LOST posted (R82 steps 1 and 2). -/
def State.lossCounted (s : State) (d : DevNum) (dv : Device) : State :=
  (s.setDevice d { dv with losses := dv.losses + 1 }).post (.deviceLost d)

theorem State.device_lossCounted (d : DevNum) (dv : Device) (e : DevNum) :
    (s.lossCounted d dv).device e = if e = d then some { dv with losses := dv.losses + 1 } else s.device e :=
  PerDevice.get_set _ _ _ _

theorem State.declareLoss_of_device {held : Device} (hd : s.device d = some dv)
    (hheld : ((s.lossCounted d dv).breakClaim d).device d = some held) :
    s.declareLoss d =
      if held.losses = held.params.fenceLimit then ((s.lossCounted d dv).breakClaim d).fence d
      else ((s.lossCounted d dv).breakClaim d).setDevice d held.beginLoad := by
  have hmod : s.modDevice d (fun dv => { dv with losses := dv.losses + 1 }) =
      s.setDevice d { dv with losses := dv.losses + 1 } := State.modDevice_of_some hd _
  simp only [State.declareLoss, hmod]
  rw [← State.lossCounted]
  simp only [hheld, State.beginLoad_of_device hheld]

theorem State.keeps_lossCounted (hd : s.device d = some dv) :
    s.Keeps (s.lossCounted d dv) ∧ s.KeepsFlights (s.lossCounted d dv) := by
  have htame : dv.Tame (s.claimed d) { dv with losses := dv.losses + 1 } := .of_entries rfl rfl id
  have himage := State.imageLaw_setDevice (dv' := { dv with losses := dv.losses + 1 }) hd rfl
  exact ⟨(State.keeps_setDevice hd htame himage).trans (State.keepsLaws_post _ _).keeps,
    (State.keepsFlights_setDevice hd htame himage).trans (State.keepsLaws_post _ _).flights⟩

theorem State.keeps_declareLoss (s : State) (d : DevNum) : s.Keeps (s.declareLoss d) ∧ s.KeepsFlights (s.declareLoss d) := by
  cases hd : s.device d with
  | none =>
    have hkeeps := (State.keepsLaws_post s (.deviceLost d)).trans (State.keepsLaws_breakClaim _ d)
    have hgone : s.declareLoss d = (s.post (.deviceLost d)).breakClaim d := by
      have hmod : s.modDevice d (fun dv => { dv with losses := dv.losses + 1 }) = s := by simp only [State.modDevice, hd]
      have hnone : ((s.post (.deviceLost d)).breakClaim d).device d = none :=
        State.device_breakClaim_of_absent (by simpa [State.device] using hd)
      simp only [State.declareLoss, hmod, hnone]
    rw [hgone]
    exact ⟨hkeeps.keeps, hkeeps.flights⟩
  | some dv =>
    obtain ⟨-, held, hheld, -, -, -⟩ :=
      State.device_breakClaim (s := s.lossCounted d dv) (d := d) (by rw [State.device_lossCounted, if_pos rfl])
    rw [State.declareLoss_of_device hd hheld]
    obtain ⟨hkeeps, hflights⟩ := State.keeps_lossCounted hd
    have hbreak := State.keepsLaws_breakClaim (s.lossCounted d dv) d
    split
    · obtain ⟨hk, hf⟩ := State.keeps_fence hheld
      exact ⟨(hkeeps.trans hbreak.keeps).trans hk, (hflights.trans hbreak.flights).trans hf⟩
    · have htame := held.tame_beginLoad (((s.lossCounted d dv).breakClaim d).claimed d)
      have himage := State.imageLaw_setDevice hheld held.shape_beginLoad
      exact ⟨(hkeeps.trans hbreak.keeps).trans (State.keeps_setDevice hheld htame himage),
        (hflights.trans hbreak.flights).trans (State.keepsFlights_setDevice hheld htame himage)⟩

/-- R81 on a hub with no transaction in progress. -/
theorem State.lossLaw_of_no_txn (himage : t.imageLaw = true) (htxn : t.txn = none)
    (hd : ∀ d dv, t.device d = some dv → dv.lossLaw = true) : t.lossLaw = true := by
  rw [State.lossLaw_iff]
  refine ⟨himage, ?_, hd⟩
  rw [State.markerLaw_iff]
  intro d hm
  simp [State.markerGranted, htxn] at hm

/-- A loss declared on a device that is not FENCED leaves it FENCED at the limit, or LOADING below it (R82, R84, R85). -/
theorem State.lossLaw_declareLoss (hd : s.device d = some dv) (hst : dv.state ≠ .fenced)
    (hlaw : ∀ e ev, s.device e = some ev → ev.lossLaw = true) :
    ∀ e ev, (s.declareLoss d).device e = some ev → ev.lossLaw = true := by
  obtain ⟨hother, held, hheld, hlosses, hshape, -⟩ :=
    State.device_breakClaim (s := s.lossCounted d dv) (d := d) (by rw [State.device_lossCounted, if_pos rfl])
  have hparams : held.params = dv.params := (Prod.mk.inj hshape).1
  have hlosses : held.losses = dv.losses + 1 := hlosses
  have hbelow : dv.losses < dv.params.fenceLimit := by
    have hdv := hlaw d dv hd
    rw [Device.lossLaw, if_neg hst] at hdv
    exact of_decide_eq_true hdv
  have hrest : ∀ e ev, e ≠ d → ((s.lossCounted d dv).breakClaim d).device e = some ev → ev.lossLaw = true := by
    intro e ev he hev
    rw [hother e he, State.device_lossCounted, if_neg he] at hev
    exact hlaw e ev hev
  rw [State.declareLoss_of_device hd hheld]
  intro e ev hev
  split at hev
  next heq =>
    rw [State.device_fence hheld] at hev
    split at hev
    next =>
      cases hev
      exact decide_eq_true heq
    next he => exact hrest e ev he hev
  next hne =>
    rw [State.device_setDevice] at hev
    split at hev
    next =>
      cases hev
      rw [Device.lossLaw, if_neg (by simp), Device.losses_beginLoad, Device.params_beginLoad]
      rw [hlosses, hparams] at hne ⊢
      exact decide_eq_true (by omega)
    next he => exact hrest e ev he hev

end

end Sys2Proof.Machine

/-! The link controller keeps the laws: grants, follow-on frames, the judgements at the end of a frame, and the ends and cuts of
transactions (R27 to R31, R37, R57 to R65, R79, R80). -/

namespace Sys2Proof.Machine

/-! ### Transactions that end -/

section
variable {s u : State} {t : Txn} {d : DevNum} {dv : Device}

theorem State.idleLaw_of_ready (hr : s.ready = true) (h : s.link = none ∨ s.txn.isSome = true) : s.idleLaw = true := by
  rw [State.idleLaw, hr]
  rcases h with h | h <;> simp [h]

theorem State.idleLaw_endTxn (h : s.idleLaw = true) : (s.endTxn t).idleLaw = true := by
  rw [State.idleLaw_iff] at h ⊢
  exact ⟨h.1.imp_right fun hi => ⟨rfl, hi.2⟩, .inl rfl⟩

theorem State.sameContext_endTxn (s : State) (t : Txn) : s.SameContext (s.endTxn t) :=
  ⟨rfl, rfl, rfl, rfl, rfl, rfl, id, State.idleLaw_endTxn⟩

theorem State.markerGranted_endTxn (s : State) (t : Txn) (d : DevNum) : (s.endTxn t).markerGranted d = false := rfl

theorem State.keeps_endTxn (s : State) (t : Txn) : s.Keeps (s.endTxn t) :=
  State.keeps_of_edits (State.sameContext_endTxn s t) (State.imageLaw_congr rfl rfl rfl rfl)
    fun _ dv h => ⟨dv, h, .refl _ dv⟩

/-- R24 at the end of a transaction: of a push that is not discarded, the entry must have landed. -/
theorem State.keepsFlights_endTxn (hk : s.KeepsFlights u) (htxn : u.txn = some t)
    (hland : u.imageLaw = true → t.kind = .push → t.discard = false → ∀ dv, u.device t.device = some dv →
      ∀ e ∈ dv.entries, e.register = t.register → e.isInFlight = false) : s.KeepsFlights (u.endTxn t) := by
  intro happlied hflight
  obtain ⟨happlied, hflight⟩ := hk happlied hflight
  rw [State.flightLaw_iff] at hflight ⊢
  refine ⟨happlied, hflight.1, fun d dv hd e he hin => ?_⟩
  obtain ⟨t', ht', hpush, hdev, hreg, hdis⟩ := hflight.2 d dv hd e he hin
  cases Option.some.inj (htxn.symm.trans ht')
  have hlanded := hland hflight.1 hpush hdis dv (hdev ▸ hd) e he hreg.symm
  exact absurd hin (by simp [hlanded])

theorem State.keepsLosses_endTxn (u : State) (t : Txn) : u.KeepsLosses (u.endTxn t) := by
  refine State.keepsLosses_of_edits (State.imageLaw_congr rfl rfl rfl rfl)
    (fun d hd => absurd hd (by simp [State.markerGranted_endTxn])) fun d => ?_
  exact Device.rel_lossTame_refl (u.device d)

/-- A happening and the end of the transaction, where the happening keeps every law and lands the entry of a push. -/
theorem State.KeepsLaws.endTxn (hk : s.KeepsLaws u) (htxn : u.txn = some t)
    (hland : u.imageLaw = true → t.kind = .push → t.discard = false → ∀ dv, u.device t.device = some dv →
      ∀ e ∈ dv.entries, e.register = t.register → e.isInFlight = false) : s.KeepsLaws (u.endTxn t) :=
  ⟨hk.keeps.trans (State.keeps_endTxn u t), State.keepsFlights_endTxn hk.flights htxn hland,
    fun h => State.keepsLosses_endTxn u t (hk.losses h)⟩

/-! ### Frames of a transaction in progress (R57) -/

theorem State.keepsLaws_endFrame (s : State) : s.KeepsLaws s.endFrame :=
  State.SameContext.keepsLaws
    ⟨rfl, rfl, rfl, rfl, rfl, rfl, id, State.idleLaw_congr rfl rfl (.inl rfl) rfl rfl⟩ rfl rfl

/-- A transaction record with the same kind, device, register and discard mark. -/
structure Txn.SameBurden (t t' : Txn) : Prop where
  kind : t'.kind = t.kind
  device : t'.device = t.device
  register : t'.register = t.register
  discard : t'.discard = t.discard

theorem State.carries_of_sameBurden {t' : Txn} (h : t.SameBurden t') (hs : s.txn = some t) (hu : u.txn = some t')
    (d : DevNum) (r : Register) (hc : s.Carries d r) : u.Carries d r := by
  obtain ⟨x, hx, hpush, hdev, hreg, hdis⟩ := hc
  cases Option.some.inj (hs.symm.trans hx)
  exact ⟨t', hu, h.kind.trans hpush, h.device.trans hdev, h.register.trans hreg, h.discard.trans hdis⟩

theorem State.markerGranted_of_sameBurden {t' : Txn} (h : t.SameBurden t') (hs : s.txn = some t) (hu : u.txn = some t')
    (d : DevNum) : u.markerGranted d = s.markerGranted d := by
  simp only [State.markerGranted, hs, hu, h.kind, h.device, h.discard]

/-- The transaction's record changed and another frame of it on the link, or none. -/
theorem State.keepsLaws_nextFrame {t' : Txn} {l : Option LinkFrame} (h : t.SameBurden t') (hs : s.txn = some t) :
    s.KeepsLaws { s with txn := some t', link := l } := by
  refine State.SameContext.keepsLaws_of_txn ⟨rfl, rfl, rfl, rfl, rfl, rfl, id, fun hi => ?_⟩ rfl
    (State.carries_of_sameBurden h hs rfl) fun d hd => (State.markerGranted_of_sameBurden h hs rfl d).symm.trans hd
  simp_all [State.idleLaw, State.ready]

/-! ### Grants (R27, R61 to R63) -/

theorem State.not_carries_of_no_txn (h : s.txn = none) (d : DevNum) (r : Register) : ¬ s.Carries d r := by
  rintro ⟨t, ht, -⟩
  simp [h] at ht

/-- A transaction that is neither a push nor a marker transaction starts, from a rotation that may move. -/
theorem State.keepsLaws_startTxn {op : LinkOp} {v : Value} (hr : s.ready = true) (hn : s.txn = none)
    (hm : t.kind ≠ .marker) : s.KeepsLaws (s.startTxn t op v) := by
  refine State.SameContext.keepsLaws_of_txn
    ⟨rfl, rfl, rfl, rfl, rfl, rfl, id, fun _ => State.idleLaw_of_ready hr (.inr rfl)⟩ rfl
    (fun d r hc => absurd hc (State.not_carries_of_no_txn hn d r)) fun d hd => ?_
  simp [State.markerGranted, State.startTxn, hm] at hd

/-- A marker transaction starts for a LOADING device. -/
theorem State.keepsLaws_grantMarker (hr : s.ready = true) (hn : s.txn = none) (hd : s.device d = some dv)
    (hst : dv.state = .loading) : s.KeepsLaws (s.grantMarker d dv) := by
  have hc : s.SameContext (s.grantMarker d dv) :=
    ⟨rfl, rfl, rfl, rfl, rfl, rfl, id, fun _ => State.idleLaw_of_ready hr (.inr rfl)⟩
  have himage : s.imageLaw = true → (s.grantMarker d dv).imageLaw = true := State.imageLaw_congr rfl rfl rfl rfl
  refine ⟨State.keeps_of_edits hc himage fun _ ev h => ⟨ev, h, .refl _ ev⟩,
    State.keepsFlights_of_edits himage (fun _ ev h => ⟨ev, h, (Device.Tame.refl true ev).held⟩) fun hf => ?_, fun h => ?_⟩
  · rw [State.flightLaw_iff] at hf
    exact fun e ev he x hx hin => absurd (hf.2 e ev he x hx hin) (State.not_carries_of_no_txn hn e _)
  · rw [State.lossLaw_iff] at h ⊢
    refine ⟨himage h.1, State.markerLaw_iff.mpr fun e he => ?_, h.2.2⟩
    have heq : e = d := by
      have := he
      simp only [State.markerGranted, State.grantMarker, State.startTxn, Txn.granted, Bool.and_eq_true,
        decide_eq_true_eq] at this
      exact this.1.2.symm
    exact ⟨dv, heq ▸ hd, hst⟩

theorem Entry.mild_launched (c : Bool) (p : Profile) (e : Entry) : e.Mild c (e.launched p) :=
  ⟨.inl, fun h => ⟨h, fun _ => rfl⟩⟩

theorem Device.mem_updateEntry {r : Register} {f : Entry → Entry} {x : Entry} (h : x ∈ (dv.updateEntry r f).entries) :
    ∃ y ∈ dv.entries, y.register = r ∧ x = f y ∨ y.register ≠ r ∧ x = y := by
  obtain ⟨y, hy, rfl⟩ := List.mem_map.mp h
  refine ⟨y, hy, ?_⟩
  split
  next hr => exact .inl ⟨hr, rfl⟩
  next hr => exact .inr ⟨hr, rfl⟩

theorem Device.shape_updateEntry {r : Register} {f : Entry → Entry} (hf : ∀ e : Entry, e.register = r → (f e).register = r) :
    (dv.updateEntry r f).shape = dv.shape := by
  simp only [Device.shape, Device.updateEntry, Machine.updateEntry, List.map_map]
  refine congrArg _ (List.map_congr_left fun e _ => ?_)
  simp only [Function.comp_apply]
  split
  next hr => exact (hf e hr).trans hr.symm
  next => rfl

/-- R33 where the entry of one register changes, neither from FAILED nor to it. -/
theorem Device.failLaw_updateEntry {e : Entry} {f : Entry → Entry} (hl : dv.Lawful) (he : e ∈ dv.entries)
    (hfailed : e.isFailed = false) (hf : (f e).isFailed = false) (h : dv.failLaw = true) :
    (dv.updateEntry e.register f).failLaw = true := by
  have hsame : (dv.updateEntry e.register f).entries.map Entry.isFailed = dv.entries.map Entry.isFailed := by
    simp only [Device.updateEntry, Machine.updateEntry, List.map_map]
    refine List.map_congr_left fun y hy => ?_
    simp only [Function.comp_apply]
    split
    next hr =>
      cases eq_of_register_eq hl.ascending hy he hr
      rw [hf, hfailed]
    next => rfl
  have hany (es : List Entry) : es.any Entry.isFailed = (es.map Entry.isFailed).any id := by simp
  exact Device.failLaw_congr (by rfl) (by rw [Device.anyFailed, hany, hsame, ← hany, Device.anyFailed]) h

/-- The hub with a push of the entry e in progress. -/
def State.pushStarted (s : State) (d : DevNum) (dv : Device) (e : Entry) : State :=
  (s.setDevice d (dv.updateEntry e.register (Entry.launched dv.profile))).startTxn
    (Txn.granted .push d e.register .pushWalker dv.params) .write (e.desired dv.profile)

section
variable {e : Entry}

/-- Each record of the hub with a push in progress is the pushed device's, or as before. -/
theorem State.device_pushStarted {e' : DevNum} {ev : Device} (h : (s.pushStarted d dv e).device e' = some ev) :
    e' = d ∧ ev = dv.updateEntry e.register (Entry.launched dv.profile) ∨ s.device e' = some ev := by
  have h' : (s.setDevice d (dv.updateEntry e.register (Entry.launched dv.profile))).device e' = some ev := h
  rw [State.device_setDevice] at h'
  split at h'
  next heq => exact .inl ⟨heq, (Option.some.inj h').symm⟩
  next => exact .inr h'

theorem State.imageLaw_pushStarted (hd : s.device d = some dv) :
    s.imageLaw = true → (s.pushStarted d dv e).imageLaw = true :=
  State.imageLaw_setDevice hd (dv.shape_updateEntry fun _ h => h)

theorem State.keeps_pushStarted (hr : s.ready = true) (hd : s.device d = some dv) (he : e ∈ dv.entries)
    (hpending : e.state = .pending) : s.Keeps (s.pushStarted d dv e) := by
  have hc : s.SameContext (s.pushStarted d dv e) :=
    ⟨rfl, rfl, rfl, rfl, rfl, rfl, id, fun _ => State.idleLaw_of_ready hr (.inr rfl)⟩
  refine State.keeps_of_edits hc (State.imageLaw_pushStarted hd) fun e' ev h => ?_
  rcases State.device_pushStarted h with ⟨rfl, rfl⟩ | hev
  · refine ⟨dv, hd, rfl, fun x hx => ?_, fun hl => ?_⟩
    · obtain ⟨y, hy, ⟨-, rfl⟩ | ⟨-, rfl⟩⟩ := Device.mem_updateEntry hx
      · exact .inr ⟨y, hy, y.mild_launched _ _⟩
      · exact .inr ⟨x, hy, .refl _ x⟩
    · exact Device.failLaw_updateEntry hl he (by simp [Entry.isFailed, hpending]) rfl
  · exact ⟨ev, hev, .refl _ ev⟩

/-- The entry that the push carries is the one IN_FLIGHT. -/
theorem State.keepsFlights_pushStarted (hn : s.txn = none) (hd : s.device d = some dv) :
    s.KeepsFlights (s.pushStarted d dv e) := by
  refine fun ha hf => ⟨?_, ?_⟩
  · rw [State.appliedLaw_iff] at ha ⊢
    intro e' ev h x hx
    rcases State.device_pushStarted h with ⟨rfl, rfl⟩ | hev
    · obtain ⟨y, hy, ⟨-, rfl⟩ | ⟨-, rfl⟩⟩ := Device.mem_updateEntry hx
      · exact fun hap => Bool.noConfusion hap
      · exact ha e' dv hd x hy
    · exact ha e' ev hev x hx
  · rw [State.flightLaw_iff] at hf ⊢
    refine ⟨State.imageLaw_pushStarted hd hf.1, fun e' ev h x hx hin => ?_⟩
    rcases State.device_pushStarted h with ⟨rfl, rfl⟩ | hev
    · obtain ⟨y, hy, ⟨hreg, rfl⟩ | ⟨-, rfl⟩⟩ := Device.mem_updateEntry hx
      · exact ⟨_, rfl, rfl, rfl, hreg.symm, rfl⟩
      · exact absurd (hf.2 e' dv hd x hy hin) (State.not_carries_of_no_txn hn _ _)
    · exact absurd (hf.2 e' ev hev x hx hin) (State.not_carries_of_no_txn hn _ _)

theorem State.keepsLosses_pushStarted (hd : s.device d = some dv) : s.KeepsLosses (s.pushStarted d dv e) :=
  State.keepsLosses_of_edits (State.imageLaw_pushStarted hd)
    (fun _ h => absurd h (by simp [State.markerGranted, State.pushStarted, State.startTxn, Txn.granted]))
    (State.rel_lossTame_setDevice hd (.of_state rfl rfl Iff.rfl id))

end

/-- The walker's push starts: its entry alone becomes IN_FLIGHT. -/
theorem State.keepsLaws_grantPush (hr : s.ready = true) (hn : s.txn = none) (hd : s.device d = some dv) :
    s.KeepsLaws (s.grantPush d dv) := by
  cases hlow : dv.lowestPending with
  | none =>
    rw [show s.grantPush d dv = s by simp only [State.grantPush, hlow]]
    exact .refl s
  | some e =>
    have hmem : e ∈ dv.entries := List.mem_of_find?_eq_some hlow
    have hpending : e.state = .pending := Entry.isPending_iff.mp (List.find?_some hlow)
    rw [State.grantPush_of_lowest hlow]
    exact ⟨State.keeps_pushStarted hr hd hmem hpending, State.keepsFlights_pushStarted hn hd,
      State.keepsLosses_pushStarted hd⟩

end

end Sys2Proof.Machine

/-! The judgements at the ends of frames keep the laws (R28 to R31, R37, R79, R80). -/

namespace Sys2Proof.Machine

section
variable {s u : State} {t : Txn} {d : DevNum} {dv : Device}

/-! ### The judgement of a push -/

/-- A judgement of a push: it lands the entry, and claims no more of it than before. -/
structure Judges (judge : Device → Entry → Value → Entry) : Prop where
  judged : ∀ (dv : Device) (e : Entry) (x : Value), Entry.Judged e.register x (judge dv e x)
  tame : ∀ (c : Bool) (dv : Device) (e : Entry) (x : Value), e.Tame c dv.profile (judge dv e x)

theorem Entry.tame_judgeSuccess (c : Bool) (p : Profile) (x : Value) (e : Entry) : e.Tame c p (e.judgeSuccess p x) := by
  unfold Entry.judgeSuccess
  split
  next h => exact ⟨⟨fun _ _ => congrArg some h.symm, fun h => Bool.noConfusion h⟩, ⟨.inl, fun h => Bool.noConfusion h⟩⟩
  next => exact ⟨⟨fun _ h => Bool.noConfusion h, fun h => Bool.noConfusion h⟩, ⟨.inl, fun h => ⟨h, fun _ => rfl⟩⟩⟩

theorem Entry.tame_judgeFailure (c : Bool) (p : Profile) (limit : Nat) (e : Entry) : e.Tame c p (e.judgeFailure limit) := by
  unfold Entry.judgeFailure
  split
  · exact ⟨⟨fun _ h => Bool.noConfusion h, fun h => Bool.noConfusion h⟩, ⟨.inl, fun h => ⟨h, fun _ => rfl⟩⟩⟩
  · exact ⟨⟨fun _ h => Bool.noConfusion h, fun h => Bool.noConfusion h⟩, ⟨.inl, fun h => Bool.noConfusion h⟩⟩

theorem judges_success : Judges fun dv e sent => e.judgeSuccess dv.profile sent :=
  ⟨fun dv e x => e.judged_judgeSuccess dv.profile x, fun c dv e x => e.tame_judgeSuccess c dv.profile x⟩

theorem judges_readback (result : Option Value) : Judges (judgeReadback result) := by
  refine ⟨fun dv e x => judged_judgeReadback result dv e x, fun c dv e x => ?_⟩
  unfold judgeReadback
  repeat' split
  · exact e.tame_judgeSuccess c dv.profile x
  · exact e.tame_judgeFailure c dv.profile dv.params.retryLimit
  · exact e.tame_judgeFailure c dv.profile dv.params.retryLimit

theorem PortSide.noticeLaw_judged (d : DevNum) (r : Register) (x : Value) (new : Entry) {q : PortSide}
    (h : q.noticeLaw = true) : (q.judged d r x new).noticeLaw = true := by
  unfold PortSide.judged
  split
  · exact h
  · split
    · exact PortSide.noticeLaw_post _ h
    · exact h

theorem PortSide.noticeLaw_settling (d : DevNum) (before after : Device) {q : PortSide} (h : q.noticeLaw = true) :
    (q.settling d before after).noticeLaw = true := by
  unfold PortSide.settling
  split <;> exact h

/-- Changes of the profile controller that keep the target and the deferred devices, with ports that keep their notice laws. -/
theorem State.keepsLaws_profiles_ports {c : ProfileController} {f : PortSide → PortSide}
    (hp : c.target = s.profiles.target)
    (ht : c.transition.map Transition.deferred = s.profiles.transition.map Transition.deferred)
    (hf : ∀ q : PortSide, q.noticeLaw = true → (f q).noticeLaw = true) :
    s.KeepsLaws { s with profiles := c, ports := s.eachPort f } :=
  State.SameContext.keepsLaws
    ⟨rfl, hp, ht, rfl, rfl, rfl, State.noticeLaw_eachPort rfl hf, State.idleLaw_congr rfl rfl (.inr rfl) rfl rfl⟩ rfl rfl

theorem ProfileController.deferred_counting (c : ProfileController) (n : Nat) :
    (c.counting n).transition.map Transition.deferred = c.transition.map Transition.deferred := by
  rw [ProfileController.counting, Option.map_map]
  rfl

/-- The record of a device once its entry `old` has been judged to be `new`. -/
def State.recordJudged (s : State) (d : DevNum) (dv : Device) (old new : Entry) : Device :=
  Device.reexamine (s.markerGranted d) (dv.updateEntry old.register fun _ => new)

section
variable {old new : Entry} {x : Value}

/-- The hub as a judgement leaves it before the completion test. -/
def State.judgedAt (s : State) (d : DevNum) (dv : Device) (old new : Entry) (x : Value) : State :=
  { s with
    devices := s.devices.set d (some (s.recordJudged d dv old new))
    profiles := if old.mark = true ∧ new.state = .failed then s.profiles.counting 1 else s.profiles
    ports := s.eachPort fun q => PortSide.settling d dv (s.recordJudged d dv old new) (q.judged d old.register x new) }

theorem State.afterJudgement_cases (hd : s.device d = some dv) (hj : Entry.Judged old.register x new) :
    s.afterJudgement d old new = s.judgedAt d dv old new x ∨
      s.afterJudgement d old new = (s.judgedAt d dv old new x).completionTest := by
  rw [State.afterJudgement_of_judged hd rfl hj rfl rfl]
  split
  · exact .inr rfl
  · exact .inl rfl

theorem State.device_afterJudgement (hd : s.device d = some dv) (hj : Entry.Judged old.register x new) (e : DevNum) :
    (s.afterJudgement d old new).device e = if e = d then some (s.recordJudged d dv old new) else s.device e := by
  rcases State.afterJudgement_cases hd hj with h | h <;> rw [h]
  · exact PerDevice.get_set _ _ _ _
  · rw [State.device, State.completionTest_devices]
    exact PerDevice.get_set _ _ _ _

theorem State.keepsLaws_judgedAt (hd : s.device d = some dv) (hmem : old ∈ dv.entries)
    (hj : Entry.Judged old.register x new) (htame : old.Tame (s.claimed d) dv.profile new) :
    s.KeepsLaws (s.judgedAt d dv old new x) := by
  refine State.KeepsLaws.trans (t :=
    { s with
      profiles := if old.mark = true ∧ new.state = .failed then s.profiles.counting 1 else s.profiles
      ports := s.eachPort fun q => PortSide.settling d dv (s.recordJudged d dv old new) (q.judged d old.register x new) })
    (State.keepsLaws_profiles_ports ?_ ?_ fun q hq => PortSide.noticeLaw_settling _ _ _ (PortSide.noticeLaw_judged _ _ _ _ hq)) ?_
  · split <;> rfl
  · split
    · exact ProfileController.deferred_counting _ _
    · rfl
  · refine State.keepsLaws_setDevice (s := { s with profiles := _, ports := _ }) hd
      (Device.tame_reexamine _ rfl fun e' he' => ?_) (Device.lossTame_reexamine _ rfl rfl rfl)
      (State.imageLaw_setDevice (s := { s with profiles := _, ports := _ }) hd ?_)
    · obtain ⟨y, hy, ⟨-, rfl⟩ | ⟨-, rfl⟩⟩ := Device.mem_updateEntry he'
      · exact .inr ⟨old, hmem, htame⟩
      · exact .inr ⟨e', hy, .refl _ _ e'⟩
    · rw [State.recordJudged, Device.shape_reexamine]
      exact Device.shape_updateEntry fun _ _ => hj.register

theorem State.keepsLaws_afterJudgement (hd : s.device d = some dv) (hmem : old ∈ dv.entries)
    (hj : Entry.Judged old.register x new) (htame : old.Tame (s.claimed d) dv.profile new) :
    s.KeepsLaws (s.afterJudgement d old new) := by
  have hjudged := State.keepsLaws_judgedAt hd hmem hj htame
  rcases State.afterJudgement_cases hd hj with h | h <;> rw [h]
  · exact hjudged
  · exact hjudged.trans (State.keepsLaws_completionTest _)

end

section
variable {judge : Device → Entry → Value → Entry} {r : Register}

/-- The judgement of a push changes nothing, or judges the entry of its register, which is IN_FLIGHT. -/
theorem State.judgePush_cases (s : State) (d : DevNum) (r : Register) (judge : Device → Entry → Value → Entry) :
    s.judgePush d r judge = s ∧
        (∀ dv e, s.device d = some dv → findEntry r dv.entries = some e → e.isInFlight = false) ∨
      ∃ dv e x, s.device d = some dv ∧ findEntry r dv.entries = some e ∧
        s.judgePush d r judge = s.afterJudgement d e (judge dv e x) := by
  cases hd : s.device d with
  | none => exact .inl ⟨by simp only [State.judgePush, hd], fun _ _ h => by simp at h⟩
  | some dv =>
    cases he : findEntry r dv.entries with
    | none => exact .inl ⟨by simp only [State.judgePush, hd, he], fun _ _ h h' => by cases h; simp [he] at h'⟩
    | some e =>
      cases hst : e.state with
      | inFlight ph x => exact .inr ⟨dv, e, x, rfl, he, State.judgePush_of_flight hd he hst judge⟩
      | pending | applied | failed =>
        refine .inl ⟨by simp only [State.judgePush, hd, he, hst], fun _ _ h h' => ?_⟩
        cases h
        cases he.symm.trans h'
        rw [Entry.isInFlight, hst]

theorem State.keepsLaws_judgePush (hjudge : Judges judge) : s.KeepsLaws (s.judgePush d r judge) := by
  rcases State.judgePush_cases s d r judge with ⟨h, -⟩ | ⟨dv, e, x, hd, he, h⟩ <;> rw [h]
  · exact .refl s
  · exact State.keepsLaws_afterJudgement hd (findEntry_mem he).2 (hjudge.judged dv e x) (hjudge.tame _ dv e x)

/-- A judgement lands the entry of its register. -/
theorem State.landed_judgePush (hjudge : Judges judge) (hi : (s.judgePush d r judge).imageLaw = true) :
    ∀ dv, (s.judgePush d r judge).device d = some dv → ∀ e ∈ dv.entries, e.register = r → e.isInFlight = false := by
  rcases State.judgePush_cases s d r judge with ⟨h, hland⟩ | ⟨dv, e, x, hd, he, h⟩ <;> rw [h] at hi ⊢
  · intro dv hd y hy hr
    have hasc := ((State.imageLaw_iff.mp hi).1 d dv hd).ascending
    exact hland dv y hd (hr ▸ findEntry_eq_some hasc hy)
  · intro dv' hd' y hy hr
    obtain ⟨hreg, -⟩ := findEntry_mem he
    have hj := hjudge.judged dv e x
    rw [State.device_afterJudgement hd hj, if_pos rfl] at hd'
    cases hd'
    rw [State.recordJudged, Device.entries_reexamine] at hy
    obtain ⟨z, -, ⟨-, rfl⟩ | ⟨hne, rfl⟩⟩ := Device.mem_updateEntry hy
    · exact hj.landed
    · exact absurd (hr.trans hreg.symm) hne

/-- The end of a push's last frame: its entry judged, and the transaction over. -/
theorem State.keepsLaws_judgePush_endTxn (ht : s.txn = some t) (hjudge : Judges judge) :
    s.KeepsLaws ((s.judgePush t.device t.register judge).endTxn t) :=
  (State.keepsLaws_judgePush hjudge).endTxn ((State.judgePush_txn _ _ _ _).trans ht)
    fun hi _ _ => State.landed_judgePush hjudge hi

/-- The end of a discarded transaction, or of one that is no push. -/
theorem State.keepsLaws_endTxn (ht : s.txn = some t) (h : t.kind = .push → t.discard = true) :
    s.KeepsLaws (s.endTxn t) :=
  (State.KeepsLaws.refl s).endTxn ht fun _ hpush hdis => absurd (h hpush) (by simp [hdis])

end

/-! ### The judgement of a confirm read and of a probe -/

/-- R81 of every device. -/
def State.LossesBelow (s : State) : Prop := ∀ d dv, s.device d = some dv → dv.lossLaw = true

theorem Device.lossLaw_iff (h : dv.state ≠ .fenced) : dv.lossLaw = true ↔ dv.losses < dv.params.fenceLimit := by
  rw [Device.lossLaw, if_neg h, decide_eq_true_iff]

theorem Params.fenceLimit_pos {ps : Params} (h : ps.inRange = true) : 0 < ps.fenceLimit := by
  simp only [Params.inRange, Bool.and_eq_true, decide_eq_true_eq] at h
  omega

/-- The record of a device whose confirm read matches the marker. -/
def Device.confirmed (dv : Device) : Device :=
  { dv with
    state := if dv.anyFailed then .diverged else .running
    phase := .confirmed
    losses := if dv.params.probeInterval = 0 then 0 else dv.losses }

theorem State.confirmLoad_of_device (hd : s.device d = some dv) :
    s.confirmLoad d = State.answerSettled s d ((s.setDevice d dv.confirmed).post (.loadDone d dv.failedCount)) := by
  simp only [State.confirmLoad, hd]
  rfl

/-- Whatever the entries, the state given by them is in line with them (R33). -/
theorem Device.failLaw_of_entries {dv' : Device} (hst : dv'.state = if dv'.anyFailed then .diverged else .running) :
    dv'.failLaw = true := by
  rw [Device.failLaw, hst]
  cases dv'.anyFailed <;> rfl

theorem State.keeps_confirmLoad (hd : s.device d = some dv) : s.Keeps (s.confirmLoad d) ∧ s.KeepsFlights (s.confirmLoad d) := by
  rw [State.confirmLoad_of_device hd]
  have htame : dv.Tame (s.claimed d) dv.confirmed := .of_entries rfl rfl fun _ => Device.failLaw_of_entries rfl
  have himage := State.imageLaw_setDevice (dv' := dv.confirmed) hd rfl
  have hrest := (State.keepsLaws_post (s.setDevice d dv.confirmed) (.loadDone d dv.failedCount)).trans
    (State.keepsLaws_answerSettled s _ d)
  exact ⟨(State.keeps_setDevice hd htame himage).trans hrest.keeps,
    (State.keepsFlights_setDevice hd htame himage).trans hrest.flights⟩

theorem State.lossesBelow_setDevice {dv' : Device} (hs : s.LossesBelow) (h : dv'.lossLaw = true) :
    (s.setDevice d dv').LossesBelow := by
  intro e ev he
  rw [State.device_setDevice] at he
  split at he
  · exact Option.some.inj he ▸ h
  · exact hs e ev he

theorem State.LossesBelow.of_devices (hs : s.LossesBelow) (h : u.devices = s.devices) : u.LossesBelow :=
  fun d dv hd => hs d dv (by rwa [State.device, h] at hd)

theorem State.lossesBelow_confirmLoad (hd : s.device d = some dv) (hp : dv.params.inRange = true)
    (hst : dv.state ≠ .fenced) (hs : s.LossesBelow) : (s.confirmLoad d).LossesBelow := by
  have hbelow := (Device.lossLaw_iff hst).mp (hs d dv hd)
  have hpos := Params.fenceLimit_pos hp
  rw [State.confirmLoad_of_device hd]
  refine (State.lossesBelow_setDevice (d := d) (dv' := dv.confirmed) hs ?_).of_devices (by simp)
  rw [Device.lossLaw_iff (by unfold Device.confirmed; split <;> simp)]
  show (if dv.params.probeInterval = 0 then 0 else dv.losses) < dv.params.fenceLimit
  split
  · exact hpos
  · exact hbelow

/-- The record of a SUSPECT device whose probe matches the marker. -/
def Device.returned (dv : Device) : Device :=
  { dv with losses := 0, state := if dv.anyFailed then .diverged else .running }

theorem State.probeMatched_of_running (hd : s.device d = some dv) (hst : dv.state = .running ∨ dv.state = .diverged) :
    s.probeMatched d = s.setDevice d { dv with losses := 0 } := by
  rcases hst with hst | hst <;> simp only [State.probeMatched, hd, hst]

theorem State.probeMatched_of_suspect (hd : s.device d = some dv) (hst : dv.state = .suspect) :
    s.probeMatched d = State.answerSettled s d (s.setDevice d dv.returned) := by
  simp only [State.probeMatched, hd, hst]
  rfl

theorem Device.lossLaw_cleared {dv' : Device} (hst : dv'.state ≠ .fenced) (hl : dv'.losses = 0)
    (hp : dv'.params.inRange = true) : dv'.lossLaw = true := by
  rw [Device.lossLaw_iff hst, hl]
  exact Params.fenceLimit_pos hp

/-- A matching probe changes a device in RUNNING, DIVERGED or SUSPECT, and keeps every law. -/
theorem State.keepsLaws_probeMatched (hd : s.device d = some dv)
    (hst : dv.state = .running ∨ dv.state = .diverged ∨ dv.state = .suspect) : s.KeepsLaws (s.probeMatched d) := by
  have hset : ∀ dv' : Device, dv'.profile = dv.profile → dv'.entries = dv.entries → dv'.params = dv.params →
      dv'.losses = 0 → dv'.state ≠ .fenced → (dv.failLaw = true → dv'.failLaw = true) →
      s.KeepsLaws (s.setDevice d dv') := by
    intro dv' hprofile hentries hparams hlosses hf hfail
    refine State.keepsLaws_setDevice hd (.of_entries hprofile hentries hfail)
      ⟨fun hr _ => Device.lossLaw_cleared hf hlosses (hparams ▸ hr), fun h => by simp [h] at hst⟩
      (State.imageLaw_setDevice hd ?_)
    rw [Device.shape, hparams, hentries, Device.shape]
  rcases hst with hst | hst | hst
  · rw [State.probeMatched_of_running hd (.inl hst)]
    exact hset _ rfl rfl rfl rfl (by simp [hst]) id
  · rw [State.probeMatched_of_running hd (.inr hst)]
    exact hset _ rfl rfl rfl rfl (by simp [hst]) id
  · rw [State.probeMatched_of_suspect hd hst]
    refine (hset dv.returned rfl rfl rfl rfl (by unfold Device.returned; split <;> simp) fun _ => ?_).trans
      (State.keepsLaws_answerSettled s _ d)
    exact Device.failLaw_of_entries rfl

theorem State.lossesBelow_of_lossLaw (h : s.lossLaw = true) : s.LossesBelow := (State.lossLaw_iff.mp h).2.2

theorem State.inRange_of_lossLaw (h : s.lossLaw = true) (hd : s.device d = some dv) : dv.params.inRange = true :=
  ((State.imageLaw_iff.mp (State.lossLaw_iff.mp h).1).1 d dv hd).1

/-- A judgement of a confirm read or a probe, and the end of its transaction: R81 is kept where the judgement keeps every loss
count below its limit or FENCED. -/
theorem State.keepsLaws_judged_endTxn (ht : u.txn = some t) (hpush : t.kind ≠ .push)
    (hk : s.Keeps u ∧ s.KeepsFlights u) (hl : s.lossLaw = true → u.LossesBelow) : s.KeepsLaws (u.endTxn t) :=
  ⟨hk.1.trans (State.keeps_endTxn u t), State.keepsFlights_endTxn hk.2 ht fun _ h => absurd h hpush,
    fun h => State.lossLaw_of_no_txn ((State.keeps_endTxn u t).image (hk.1.image (State.lossLaw_iff.mp h).1)) rfl (hl h)⟩

theorem State.keepsLaws_judgeProbe_endTxn {result : Option Value} (ht : s.txn = some t) (hpush : t.kind ≠ .push) :
    s.KeepsLaws ((s.judgeProbe t.device result).endTxn t) := by
  have hend : s.KeepsLaws (s.endTxn t) := State.keepsLaws_endTxn ht fun h => absurd h hpush
  unfold State.judgeProbe
  split
  next dv hd =>
    split
    next hst =>
      split
      · exact (State.keepsLaws_probeMatched hd hst).endTxn ((State.probeMatched_txn _ _).trans ht)
          fun _ h => absurd h hpush
      · refine State.keepsLaws_judged_endTxn ((State.declareLoss_txn _ _).trans ht) hpush (s.keeps_declareLoss _) fun h => ?_
        exact State.lossLaw_declareLoss hd (by rcases hst with h | h | h <;> simp [h]) (State.lossesBelow_of_lossLaw h)
    next => exact hend
  next => exact hend

/-- The device of a marker transaction still to be judged is LOADING (R36, R60). -/
theorem State.loading_of_markerGranted (h : s.lossLaw = true) (hd : s.device d = some dv)
    (hm : s.markerGranted d = true) : dv.state = .loading := by
  obtain ⟨dv', hd', hst⟩ := State.markerLaw_iff.mp (State.lossLaw_iff.mp h).2.1 d hm
  cases hd.symm.trans hd'
  exact hst

theorem State.markerGranted_of_txn_marker (ht : s.txn = some t) (hk : t.kind = .marker) (hdis : t.discard = false) :
    s.markerGranted t.device = true := by
  simp [State.markerGranted, ht, hk, hdis]

theorem State.keepsLaws_judgeConfirm_endTxn {result : Option Value} (ht : s.txn = some t) (hk : t.kind = .marker)
    (hdis : t.discard = false) : s.KeepsLaws ((s.judgeConfirm t.device result).endTxn t) := by
  have hpush : t.kind ≠ .push := by simp [hk]
  unfold State.judgeConfirm
  split
  next dv hd =>
    have hnot : s.lossLaw = true → dv.state ≠ .fenced := fun h => by
      rw [State.loading_of_markerGranted h hd (State.markerGranted_of_txn_marker ht hk hdis)]
      simp
    split
    · exact State.keepsLaws_judged_endTxn ((State.confirmLoad_txn _ _).trans ht) hpush (State.keeps_confirmLoad hd)
        fun h => State.lossesBelow_confirmLoad hd (State.inRange_of_lossLaw h hd) (hnot h) (State.lossesBelow_of_lossLaw h)
    · exact State.keepsLaws_judged_endTxn ((State.declareLoss_txn _ _).trans ht) hpush (s.keeps_declareLoss _)
        fun h => State.lossLaw_declareLoss hd (hnot h) (State.lossesBelow_of_lossLaw h)
  next => exact State.keepsLaws_endTxn ht fun h => absurd h hpush

end

end Sys2Proof.Machine

/-! Safe happenings: the laws kept, and no more requests, responses and outstanding requests than before (R126, R127). -/

namespace Sys2Proof.Machine

/-! ### Queues -/

/-- A port b with no more frames than the port a, and at most n more answers due. -/
structure PortSide.Grows (n : Nat) (a b : PortSide) : Prop where
  requests : b.requests.length ≤ a.requests.length
  answers : b.responses.length + b.outstanding.length ≤ a.responses.length + a.outstanding.length + n
  outstanding : b.outstanding.length ≤ a.outstanding.length ∨ n ≠ 0 ∧ b.outstanding.length ≤ 4

theorem PortSide.Grows.refl (a : PortSide) : a.Grows 0 a := ⟨le_rfl, le_rfl, .inl le_rfl⟩

theorem PortSide.Grows.trans {n m : Nat} {a b c : PortSide} (h : a.Grows n b) (k : b.Grows m c) : a.Grows (n + m) c := by
  obtain ⟨hreq, hans, hout⟩ := h
  obtain ⟨kreq, kans, kout⟩ := k
  exact ⟨by omega, by omega, by omega⟩

theorem PortSide.Answered.grows {a b : PortSide} (h : a.Answered b) : a.Grows 0 b :=
  ⟨h.requests ▸ le_rfl, h.sum.le, .inl h.outstanding.length_le⟩

theorem PortSide.queueLaw_iff {q : PortSide} :
    q.queueLaw = true ↔ q.requests.length ≤ 4 ∧ q.outstanding.length ≤ 4 ∧
      q.responses.length + q.outstanding.length ≤ 8 := by
  simp [PortSide.queueLaw, and_assoc]

theorem State.queueLaw_iff {s : State} : s.queueLaw = true ↔ ∀ p, (s.port p).queueLaw = true := by
  rw [State.queueLaw, Bool.and_eq_true]
  exact ⟨fun h p => match p with
    | .h => h.1
    | .l => h.2, fun h => ⟨h .h, h .l⟩⟩

theorem PortSide.Grows.queueLaw {a b : PortSide} (h : a.Grows 0 b) (ha : a.queueLaw = true) : b.queueLaw = true := by
  rw [PortSide.queueLaw_iff] at ha ⊢
  obtain ⟨hreq, hans, hout⟩ := h
  omega

/-! ### Safe happenings -/

/-- A happening that keeps the laws and lets no queue grow. -/
structure State.Safe (s t : State) : Prop where
  laws : s.KeepsLaws t
  ports : ∀ q, (s.port q).Grows 0 (t.port q)

section
variable {s t u : State}

theorem State.Safe.refl (s : State) : s.Safe s := ⟨.refl s, fun _ => .refl _⟩

theorem State.Safe.trans (h : s.Safe t) (k : t.Safe u) : s.Safe u := ⟨h.laws.trans k.laws, fun q => (h.ports q).trans (k.ports q)⟩

theorem State.Safe.queueLaw (h : s.Safe t) (hs : s.queueLaw = true) : t.queueLaw = true :=
  State.queueLaw_iff.mpr fun q => (h.ports q).queueLaw (State.queueLaw_iff.mp hs q)

theorem State.KeepsLaws.safe (h : s.KeepsLaws t) (ha : s.Answered t) : s.Safe t := ⟨h, fun q => (ha q).grows⟩

theorem State.KeepsLaws.safe_of_ports (h : s.KeepsLaws t) (hp : t.ports = s.ports) : s.Safe t := h.safe (.of_ports hp)

/-- A happening that leaves the devices, the transaction and the ports as they are, with their context. -/
theorem State.SameContext.safe (hc : s.SameContext t) (hd : t.devices = s.devices) (ht : t.txn = s.txn)
    (hp : t.ports = s.ports) : s.Safe t :=
  (hc.keepsLaws hd ht).safe_of_ports hp

theorem State.safe_endClaim (s : State) (d : DevNum) {put : Entry → Entry} (hput : Entry.SlotChange put)
    (hclear : ∀ e, (put e).hasStaged = false) : s.Safe (s.endClaim d put) :=
  (State.keepsLaws_endClaim s d hput hclear).safe (s.answered_endClaim d put)

theorem State.safe_expireClaim (s : State) (d : DevNum) : s.Safe (s.expireClaim d) :=
  (s.keepsLaws_expireClaim d).safe (s.answered_expireClaim d)

theorem State.safe_completionTest (s : State) : s.Safe s.completionTest :=
  s.keepsLaws_completionTest.safe s.answered_completionTest

theorem State.safe_lineChange (s : State) : s.Safe s.lineChange := s.keepsLaws_lineChange.safe s.answered_lineChange

theorem State.safe_answer (s : State) (f : Outstanding → Option (OutcomeCode × Payload)) : s.Safe (s.answer f) :=
  (s.keepsLaws_answer f).safe (s.answered_answer f)

theorem State.safe_post (s : State) (n : Notice) : s.Safe (s.post n) := (s.keepsLaws_post n).safe (s.answered_post n)

theorem State.grows_modPort {n : Nat} {p : Port} {f : PortSide → PortSide} (h : (s.port p).Grows n (f (s.port p)))
    (q : Port) : (s.port q).Grows (if q = p then n else 0) ((s.modPort p f).port q) := by
  simp only [State.port, State.modPort_ports, PerPort.get_set]
  split
  next hq =>
    subst hq
    exact h
  next => exact .refl _

/-- A port changed, with its notice law kept and no queue grown. -/
theorem State.safe_modPort {p : Port} {f : PortSide → PortSide} (h : (s.port p).Grows 0 (f (s.port p)))
    (hn : (s.port p).noticeLaw = true → (f (s.port p)).noticeLaw = true) : s.Safe (s.modPort p f) :=
  ⟨State.keepsLaws_modPort hn, fun q => by simpa using State.grows_modPort h q⟩

/-! ### The link controller's steps -/

theorem State.answered_confirmLoad (s : State) (d : DevNum) : s.Answered (s.confirmLoad d) := by
  unfold State.confirmLoad
  split
  next dv hd =>
    exact ((State.Answered.of_ports rfl).trans (State.answered_post (s.setDevice d dv.confirmed) _)).trans
      (State.answered_answerSettled s _ d)
  · exact .refl s

theorem State.answered_probeMatched (s : State) (d : DevNum) : s.Answered (s.probeMatched d) := by
  unfold State.probeMatched
  split
  · split
    · exact .of_ports rfl
    · exact .of_ports rfl
    · exact State.Answered.trans (t := s.setDevice d _) (.of_ports rfl) (State.answered_answerSettled s _ d)
    all_goals exact .refl s
  · exact .refl s

theorem State.answered_judgeProbe (s : State) (d : DevNum) (v : Option Value) : s.Answered (s.judgeProbe d v) := by
  unfold State.judgeProbe
  split
  · split
    · split
      · exact s.answered_probeMatched d
      · exact s.answered_declareLoss d
    · exact .refl s
  · exact .refl s

theorem State.answered_judgeConfirm (s : State) (d : DevNum) (v : Option Value) : s.Answered (s.judgeConfirm d v) := by
  unfold State.judgeConfirm
  split
  · split
    · exact s.answered_confirmLoad d
    · exact s.answered_declareLoss d
  · exact .refl s

theorem State.Answered.endTxn (h : s.Answered u) (t : Txn) : s.Answered (u.endTxn t) := h.trans (.of_ports rfl)

/-- The transaction in progress of a kind, with a frame of it on the link. -/
theorem State.frameOf_eq_some {k : TxnKind} {t : Txn} (h : s.frameOf k = some t) : s.txn = some t ∧ t.kind = k := by
  unfold State.frameOf at h
  split at h
  next x hx =>
    split at h
    next hk =>
      cases h
      exact ⟨hx, hk.1⟩
    next => simp at h
  next => simp at h

theorem State.linkFree_facts (h : s.linkFree = true) : s.ready = true ∧ s.txn = none := by
  simp only [State.linkFree, Bool.and_eq_true, Option.isNone_iff_eq_none] at h
  exact ⟨h.1.2, h.1.1⟩

theorem State.rotationGrant_facts {r : Rotation} (h : s.rotationGrant = some r) : s.ready = true ∧ s.txn = none := by
  refine State.linkFree_facts ?_
  by_contra hf
  rw [State.rotationGrant_of_not_linkFree (eq_false_of_ne_true hf)] at h
  simp at h

theorem State.safe_rotateFrom (s : State) (r : Rotation) : s.Safe (s.rotateFrom r) :=
  State.SameContext.safe ⟨rfl, rfl, rfl, rfl, rfl, rfl, id, State.idleLaw_congr rfl rfl (.inr rfl) rfl rfl⟩ rfl rfl rfl

theorem execProbeGrant_safe (s : State) : ∃ t, execProbeGrant s = .next t ∧ s.Safe t := by
  refine ⟨_, rfl, ?_⟩
  split
  next hfree =>
    obtain ⟨hr, hn⟩ := State.linkFree_facts hfree
    split
    next d _ =>
      unfold State.grantProbe
      split
      next dv hd =>
        have hset : s.KeepsLaws (s.setDevice d dv.reloadTimer) :=
          State.keepsLaws_setDevice hd (.of_entries rfl rfl id) (.of_state rfl rfl Iff.rfl id)
            (State.imageLaw_setDevice hd rfl)
        exact (hset.trans (State.keepsLaws_startTxn hr hn (by simp [Txn.granted]))).safe_of_ports rfl
      next => exact .refl s
    next => exact .refl s
  next => exact .refl s

theorem execPushGrant_safe (s : State) : ∃ t, execPushGrant s = .next t ∧ s.Safe t := by
  refine ⟨_, rfl, ?_⟩
  split
  next hg =>
    obtain ⟨hr, hn⟩ := State.rotationGrant_facts hg
    split
    next d _ =>
      split
      next dv hd =>
        split
        · exact .refl s
        · refine (State.safe_rotateFrom s .pushWalker).trans (State.KeepsLaws.safe_of_ports
            (State.keepsLaws_grantPush hr hn hd) ?_)
          unfold State.grantPush
          split <;> rfl
      next => exact .refl s
    next => exact .refl s
  next => exact .refl s

theorem execMarkerGrant_safe (s : State) : ∃ t, execMarkerGrant s = .next t ∧ s.Safe t := by
  refine ⟨_, rfl, ?_⟩
  split
  next hg =>
    obtain ⟨hr, hn⟩ := State.rotationGrant_facts hg
    split
    next d _ =>
      split
      next dv hd =>
        split
        next hm =>
          exact (State.safe_rotateFrom s .pushWalker).trans (State.KeepsLaws.safe_of_ports
            (State.keepsLaws_grantMarker (s := s.rotateFrom .pushWalker) hr hn hd (Device.inMarkerPhase_iff.mp hm).1) rfl)
        next => exact .refl s
      next => exact .refl s
    next => exact .refl s
  next => exact .refl s

/-- A manual transfer is granted where nothing is on the link (R61, R63). -/
theorem State.manualGrant_facts {r : Rotation} {p : Port} {x : Transfer} (h : s.manualGrant = some (r, p, x)) :
    s.ready = true ∧ s.txn = none := by
  unfold State.manualGrant at h
  split at h
  next r' hg => exact State.rotationGrant_facts hg
  next => simp at h

/-- A manual transfer's transaction starts. -/
theorem State.safe_startManual {k : TxnKind} {op : LinkOp} {v : Value} {r : Rotation} {t : Txn} (hr : s.ready = true)
    (hn : s.txn = none) (hk : t.kind = k) (hm : k ≠ .marker) : s.Safe ((s.rotateFrom r).startTxn t op v) :=
  (State.safe_rotateFrom s r).trans ((State.keepsLaws_startTxn (s := s.rotateFrom r) hr hn (hk ▸ hm)).safe_of_ports rfl)

theorem execManualRead_safe (s : State) : ∃ t, execManualRead s = .next t ∧ s.Safe t := by
  refine ⟨_, rfl, ?_⟩
  split
  next r p x hg =>
    obtain ⟨hr, hn⟩ := State.manualGrant_facts hg
    split
    · exact State.safe_startManual (k := .manualRead) hr hn rfl (by simp)
    · exact .refl s
  next => exact .refl s

theorem execManualWrite_safe (s : State) : ∃ t, execManualWrite s = .next t ∧ s.Safe t := by
  refine ⟨_, rfl, ?_⟩
  split
  next r p x hg =>
    obtain ⟨hr, hn⟩ := State.manualGrant_facts hg
    split
    · exact State.safe_startManual (k := .manualWrite) hr hn rfl (by simp)
    · exact .refl s
  next => exact .refl s

theorem execFollowOnFrameStart_safe (s : State) : ∃ t, execFollowOnFrameStart s = .next t ∧ s.Safe t := by
  refine ⟨_, rfl, ?_⟩
  split
  next t ht =>
    split
    · exact (State.keepsLaws_nextFrame (t := t) (t' := { t with frame := t.frame + 1 }) ⟨rfl, rfl, rfl, rfl⟩ ht).safe_of_ports rfl
    · exact .refl s
  next => exact .refl s

theorem State.safe_endFrame (s : State) : s.Safe s.endFrame := s.keepsLaws_endFrame.safe_of_ports rfl

theorem Entry.tame_toReadback (c : Bool) (p : Profile) (e : Entry) : e.Tame c p e.toReadback := by
  unfold Entry.toReadback
  split
  next ph x hst =>
    exact ⟨⟨fun _ h => Bool.noConfusion h, fun _ => ⟨by rw [Entry.isInFlight, hst], rfl⟩⟩,
      ⟨.inl, fun h => ⟨h, fun _ => rfl⟩⟩⟩
  next => exact .refl c p e

theorem Entry.register_toReadback (e : Entry) : e.toReadback.register = e.register := by
  unfold Entry.toReadback
  split <;> rfl

theorem Entry.isFailed_toReadback (e : Entry) : e.toReadback.isFailed = e.isFailed := by
  unfold Entry.toReadback
  split
  next h => simp [Entry.isFailed, h]
  next => rfl

/-- Entries of one register changed one by one, none to FAILED or from it. -/
theorem State.keepsLaws_updateEntry {d : DevNum} {dv : Device} {r : Register} {f : Entry → Entry} (hd : s.device d = some dv)
    (hreg : ∀ e : Entry, (f e).register = e.register) (hfailed : ∀ e : Entry, (f e).isFailed = e.isFailed)
    (hf : ∀ e ∈ dv.entries, e.Tame (s.claimed d) dv.profile (f e)) : s.KeepsLaws (s.setDevice d (dv.updateEntry r f)) := by
  refine State.keepsLaws_setDevice hd ⟨rfl, fun e' he' => ?_, fun h => ?_⟩ (.of_state rfl rfl Iff.rfl id)
    (State.imageLaw_setDevice hd (Device.shape_updateEntry fun e he => (hreg e).trans he))
  · obtain ⟨y, hy, ⟨-, rfl⟩ | ⟨-, rfl⟩⟩ := Device.mem_updateEntry he'
    · exact .inr ⟨y, hy, hf y hy⟩
    · exact .inr ⟨e', hy, .refl _ _ e'⟩
  · refine Device.failLaw_congr (by rfl) ?_ h
    simp only [Device.anyFailed, Device.updateEntry, updateEntry, List.any_map]
    congr 1
    funext e
    simp only [Function.comp_apply]
    split
    · exact hfailed e
    · rfl

theorem execPushWriteFrameEnd_safe (s : State) : ∃ t, execPushWriteFrameEnd s = .next t ∧ s.Safe t := by
  refine ⟨_, rfl, ?_⟩
  split
  next t hf =>
    obtain ⟨ht, hk⟩ := State.frameOf_eq_some hf
    split
    · exact .refl s
    · split
      · split
        next hdis =>
          exact (State.keepsLaws_endTxn ht fun _ => hdis).safe_of_ports rfl
        next =>
          exact (State.keepsLaws_judgePush_endTxn ht judges_success).safe ((State.answered_judgePush _ _ _ _).endTxn t)
      · split
        · exact State.safe_endFrame s
        · cases hd : s.device t.device with
          | none =>
            rw [show s.modDevice t.device _ = s by simp only [State.modDevice, hd]]
            exact State.safe_endFrame s
          | some dv =>
            rw [State.modDevice_of_some hd]
            refine State.Safe.trans (t := s.setDevice t.device _) (State.KeepsLaws.safe_of_ports ?_ rfl) (State.safe_endFrame _)
            exact State.keepsLaws_updateEntry hd Entry.register_toReadback Entry.isFailed_toReadback
              fun e _ => e.tame_toReadback _ _
  next => exact .refl s

theorem execReadbackEnd_safe (bits : SampledBits) (s : State) : ∃ t, execReadbackEnd bits s = .next t ∧ s.Safe t := by
  refine ⟨_, rfl, ?_⟩
  split
  next t hf =>
    obtain ⟨ht, hk⟩ := State.frameOf_eq_some hf
    split
    · exact .refl s
    · split
      next hdis => exact (State.keepsLaws_endTxn ht fun _ => hdis).safe_of_ports rfl
      next =>
        exact (State.keepsLaws_judgePush_endTxn ht (judges_readback _)).safe ((State.answered_judgePush _ _ _ _).endTxn t)
  next => exact .refl s

theorem execMarkerWriteFrameEnd_safe (s : State) : ∃ t, execMarkerWriteFrameEnd s = .next t ∧ s.Safe t := by
  refine ⟨_, rfl, ?_⟩
  split
  · split
    · exact State.safe_endFrame s
    · exact .refl s
  · exact .refl s

theorem execConfirmReadEnd_safe (bits : SampledBits) (s : State) : ∃ t, execConfirmReadEnd bits s = .next t ∧ s.Safe t := by
  refine ⟨_, rfl, ?_⟩
  split
  next t hf =>
    obtain ⟨ht, hk⟩ := State.frameOf_eq_some hf
    split
    · exact .refl s
    · split
      · exact State.safe_endFrame s
      · split
        next hdis => exact (State.keepsLaws_endTxn ht fun _ => hdis).safe_of_ports rfl
        next hdis =>
          exact (State.keepsLaws_judgeConfirm_endTxn ht hk (eq_false_of_ne_true hdis)).safe
            ((State.answered_judgeConfirm _ _ _).endTxn t)
  next => exact .refl s

theorem execProbeReadEnd_safe (bits : SampledBits) (s : State) : ∃ t, execProbeReadEnd bits s = .next t ∧ s.Safe t := by
  refine ⟨_, rfl, ?_⟩
  split
  next t hf =>
    obtain ⟨ht, hk⟩ := State.frameOf_eq_some hf
    split
    · exact State.safe_endFrame s
    · split
      next hdis => exact (State.keepsLaws_endTxn ht fun _ => hdis).safe_of_ports rfl
      next =>
        exact (State.keepsLaws_judgeProbe_endTxn ht (by simp [hk])).safe ((State.answered_judgeProbe _ _ _).endTxn t)
  next => exact .refl s

/-! ### Manual transfers (R70, R71) -/

theorem State.safe_finishTransfer (s : State) (p : Port) (c : OutcomeCode) (pl : Payload) : s.Safe (s.finishTransfer p c pl) := by
  unfold State.finishTransfer
  split
  next x rest _ =>
    exact (State.safe_modPort (f := fun q => { q with manual := rest }) ⟨le_rfl, le_rfl, .inl le_rfl⟩ id).trans
      (State.safe_modPort (PortSide.answered_answer _ _).grows id)
  next => exact .refl s

/-- The end of a manual transfer: its answer, and the transaction over. -/
theorem State.safe_finishTransfer_endTxn {t : Txn} (ht : s.txn = some t) (hk : t.kind ≠ .push) (p : Port) (c : OutcomeCode)
    (pl : Payload) : s.Safe ((s.finishTransfer p c pl).endTxn t) := by
  have hf := State.safe_finishTransfer s p c pl
  have hlaws := hf.laws.endTxn ((State.finishTransfer_txn s p c pl).trans ht) fun _ h => absurd h hk
  exact ⟨hlaws, hf.ports⟩

theorem execManualReadFrameEnd_safe (bits : SampledBits) (s : State) :
    ∃ t, execManualReadFrameEnd bits s = .next t ∧ s.Safe t := by
  refine ⟨_, rfl, ?_⟩
  split
  next t hf =>
    obtain ⟨ht, hk⟩ := State.frameOf_eq_some hf
    have hpush : t.kind ≠ .push := by simp [hk]
    split
    · split
      · exact State.safe_finishTransfer_endTxn ht hpush _ _ _
      · split
        · exact (State.keepsLaws_nextFrame (t := t) (t' := { t with readsMade := t.readsMade + 1 }) (l := none)
            ⟨rfl, rfl, rfl, rfl⟩ ht).safe_of_ports rfl
        · exact State.safe_finishTransfer_endTxn ht hpush _ _ _
    · exact .refl s
  next => exact .refl s

theorem execManualWriteFrameEnd_safe (s : State) : ∃ t, execManualWriteFrameEnd s = .next t ∧ s.Safe t := by
  refine ⟨_, rfl, ?_⟩
  split
  next t hf =>
    obtain ⟨ht, hk⟩ := State.frameOf_eq_some hf
    split
    · exact State.safe_finishTransfer_endTxn ht (by simp [hk]) _ _ _
    · exact .refl s
  next => exact .refl s

end

end Sys2Proof.Machine

/-! The timers, the boot image store, cold starts and the supply hold keep the laws (R76, R94, R111, R174 to R187). -/

namespace Sys2Proof.Machine

section
variable {s t u : State}

/-! ### Timers (R76, R94, R111) -/

/-- Every device's record changed by one function that claims no more. -/
theorem State.keepsLaws_mapDevices {f : Device → Device} (ht : ∀ c dv, Device.Tame c dv (f dv))
    (hl : ∀ dv, Device.LossTame dv (f dv)) (hs : ∀ dv, (f dv).shape = dv.shape) :
    s.KeepsLaws { s with devices := PerDevice.ofFn fun d => (s.device d).map f } := by
  have hdev : ∀ d, State.device { s with devices := PerDevice.ofFn fun d => (s.device d).map f } d = (s.device d).map f :=
    fun d => PerDevice.get_ofFn _ d
  have hc : s.SameContext { s with devices := PerDevice.ofFn fun d => (s.device d).map f } :=
    ⟨rfl, rfl, rfl, rfl, rfl, rfl, id, State.idleLaw_congr rfl rfl (.inr rfl) rfl rfl⟩
  have himage := State.imageLaw_of_shape (s := s)
    (t := { s with devices := PerDevice.ofFn fun d => (s.device d).map f })
    (fun d => by rw [hdev, Option.map_map]; exact Option.map_congr fun dv _ => hs dv) rfl rfl rfl
  have hedit : ∀ d dv', State.device { s with devices := PerDevice.ofFn fun d => (s.device d).map f } d = some dv' →
      ∃ dv, s.device d = some dv ∧ dv.Tame (s.claimed d) dv' := by
    intro d dv' h
    rw [hdev, Option.map_eq_some_iff] at h
    obtain ⟨dv, hd, rfl⟩ := h
    exact ⟨dv, hd, ht _ dv⟩
  refine ⟨State.keeps_of_edits hc himage (State.mild_of_edits hedit),
    State.keepsFlights_of_edits himage (State.held_of_edits hedit) (State.carries_of_txn rfl),
    State.keepsLosses_of_edits himage (fun _ => id) fun d => ?_⟩
  rw [hdev]
  cases s.device d with
  | none => exact .none
  | some dv => exact .some (hl dv)

/-- A record with its probe timer's fields changed. -/
theorem Device.tame_timer (c : Bool) (dv : Device) (remaining elapsed : Nat) (due : Bool) :
    dv.Tame c { dv with probeRemaining := remaining, probeElapsed := elapsed, probeDue := due } :=
  .of_entries rfl rfl id

theorem Device.lossTame_timer (dv : Device) (remaining elapsed : Nat) (due : Bool) :
    dv.LossTame { dv with probeRemaining := remaining, probeElapsed := elapsed, probeDue := due } :=
  .of_state rfl rfl Iff.rfl id

theorem Device.timerOut_cases (dv : Device) :
    ∃ remaining elapsed due,
      dv.timerOut = { dv with probeRemaining := remaining, probeElapsed := elapsed, probeDue := due } := by
  unfold Device.timerOut
  split <;> exact ⟨_, _, _, rfl⟩

theorem Device.tick_cases (dv : Device) :
    ∃ remaining elapsed due, dv.tick = { dv with probeRemaining := remaining, probeElapsed := elapsed, probeDue := due } := by
  unfold Device.tick
  split
  · split
    · exact ⟨_, _, _, rfl⟩
    · split
      · exact ⟨_, _, _, rfl⟩
      · exact dv.timerOut_cases
  · exact ⟨_, _, _, rfl⟩

theorem State.safe_setTimer {d : DevNum} {dv dv' : Device} (hd : s.device d = some dv)
    (h : ∃ remaining elapsed due,
      dv' = { dv with probeRemaining := remaining, probeElapsed := elapsed, probeDue := due }) :
    s.Safe (s.setDevice d dv') := by
  obtain ⟨remaining, elapsed, due, rfl⟩ := h
  exact (State.keepsLaws_setDevice hd (dv.tame_timer _ remaining elapsed due) (dv.lossTame_timer remaining elapsed due)
    (State.imageLaw_setDevice hd rfl)).safe_of_ports rfl

theorem State.safe_tickDevices (s : State) :
    s.Safe { s with devices := PerDevice.ofFn fun d => (s.device d).map Device.tick } := by
  refine (State.keepsLaws_mapDevices (fun c dv => ?_) (fun dv => ?_) fun dv => ?_).safe_of_ports rfl <;>
    obtain ⟨remaining, elapsed, due, h⟩ := dv.tick_cases <;> rw [h]
  · exact dv.tame_timer _ _ _ _
  · exact dv.lossTame_timer _ _ _
  · rfl

theorem State.safe_probeTimerOut (s : State) (d : DevNum) : s.Safe (s.probeTimerOut d) := by
  unfold State.probeTimerOut
  split
  next dv hd =>
    split
    · exact State.safe_setTimer hd dv.timerOut_cases
    · exact .refl s
  next => exact .refl s

theorem State.safe_tickLease (s : State) (d : DevNum) : s.Safe (s.tickLease d) := by
  refine (s.keepsLaws_tickLease d).safe ?_
  unfold State.tickLease
  split
  · split
    · exact .of_ports rfl
    · split
      · exact .of_ports rfl
      · exact s.answered_expireClaim d
  · exact .refl s

/-- A change of the profile controller's line fields and source alone. -/
theorem State.safe_profiles {c : ProfileController} (hp : c.target = s.profiles.target)
    (ht : c.transition = s.profiles.transition) : s.Safe { s with profiles := c } :=
  (State.keepsLaws_profiles hp (by rw [ht])).safe_of_ports rfl

theorem State.safe_tickDebounce (s : State) : s.Safe s.tickDebounce := by
  unfold State.tickDebounce
  split
  · split
    · exact State.safe_profiles rfl rfl
    · exact s.safe_lineChange
  · exact .refl s

theorem State.safe_tick (s : State) : s.Safe s.tick := by
  unfold State.tick
  split
  · exact ((((((((s.safe_tickLease 0).trans (State.safe_tickLease _ 1)).trans (State.safe_tickLease _ 2)).trans
      (State.safe_tickLease _ 3)).trans (State.safe_tickLease _ 4)).trans (State.safe_tickLease _ 5)).trans
      (State.safe_tickDevices _)).trans (State.safe_tickDebounce _))
  · exact .refl s

theorem execProbeTimerExpiry_safe (n : Nat) (s : State) : ∃ t, execProbeTimerExpiry n s = .next t ∧ s.Safe t := by
  refine ⟨_, rfl, ?_⟩
  split
  · exact s.safe_probeTimerOut _
  · exact .refl s

theorem execClaimExpired_safe (n : Nat) (s : State) : ∃ t, execClaimExpired n s = .next t ∧ s.Safe t := by
  refine ⟨_, rfl, ?_⟩
  split
  · split
    · exact s.safe_expireClaim _
    · exact .refl s
  · exact .refl s

theorem ProfileController.levelChanged_kept (level : Profile) (c : ProfileController) :
    (c.levelChanged level).target = c.target ∧ (c.levelChanged level).transition = c.transition := by
  unfold ProfileController.levelChanged
  split <;> exact ⟨rfl, rfl⟩

theorem ProfileController.newLevel_kept (level : Profile) (c : ProfileController) :
    (c.newLevel level).target = c.target ∧ (c.newLevel level).transition = c.transition := by
  unfold ProfileController.newLevel
  split
  · exact ⟨rfl, rfl⟩
  · exact c.levelChanged_kept level

/-- A change of the input levels changes no law. -/
theorem State.safe_inputs (s : State) (i : Inputs) : s.Safe { s with inputs := i } :=
  State.SameContext.safe ⟨rfl, rfl, rfl, rfl, rfl, rfl, id, State.idleLaw_congr rfl rfl (.inr rfl) rfl rfl⟩ rfl rfl rfl

theorem execPselChange_safe (level : Profile) (s : State) : ∃ t, execPselChange level s = .next t ∧ s.Safe t := by
  refine ⟨_, rfl, ?_⟩
  split
  · exact .refl s
  · refine (s.safe_inputs { s.inputs with psel := level }).trans (State.safe_profiles ?_ ?_)
    · split
      · exact (ProfileController.levelChanged_kept level _).1
      · rfl
    · split
      · exact (ProfileController.levelChanged_kept level _).2
      · rfl

theorem execLineChange_safe (s : State) : ∃ t, execLineChange s = .next t ∧ s.Safe t := by
  refine ⟨_, rfl, ?_⟩
  split
  · exact s.safe_lineChange
  · exact .refl s

/-! ### Snapshots and banks (R177, R180 to R183) -/

theorem Snapshot.lawful_iff {x : Snapshot} :
    x.lawful = true ↔ (∀ d b, x.devices.get d = some b → b.lawful = true) ∧
      (sumDevices fun d => ((x.devices.get d).map BankDevice.entries).elim 0 List.length) ≤ 320 := by
  rw [Snapshot.lawful, Bool.and_eq_true, allDevices_iff]
  refine and_congr (forall_congr' fun d => ?_)
    (decide_eq_true_iff.trans (iff_of_eq (congrArg (· ≤ 320) (sumDevices_congr fun d => ?_))))
  · cases x.devices.get d <;> simp
  · cases x.devices.get d <;> rfl

theorem Device.lawful_record {dv : Device} (h : dv.Lawful) : dv.record.lawful = true := by
  rw [BankDevice.lawful, Bool.and_eq_true]
  refine ⟨h.1, ?_⟩
  rw [Device.record, List.map_map]
  exact h.2

theorem State.lawful_snapshot (h : s.imageLaw = true) : s.snapshot.lawful = true := by
  obtain ⟨hdevs, hpool, -⟩ := State.imageLaw_iff.mp h
  rw [Snapshot.lawful_iff]
  refine ⟨fun d b hb => ?_, ?_⟩
  · rw [State.snapshot, PerDevice.get_ofFn, Option.map_eq_some_iff] at hb
    obtain ⟨dv, hd, rfl⟩ := hb
    exact Device.lawful_record (hdevs d dv hd)
  · rw [State.poolInUse_eq] at hpool
    refine le_of_eq_of_le (sumDevices_congr fun d => ?_) hpool
    rw [State.snapshot, PerDevice.get_ofFn, Option.map_map]
    cases s.device d <;> simp [Device.record]

/-- What the boot image store holds beside the image, lawful. -/
theorem State.imageLaw_store {a b : Bank} {v : SaveUnit} (ha : a.lawful = true) (hb : b.lawful = true)
    (hv : ∀ r, v.record = some r → r.snapshot.lawful = true) (h : s.imageLaw = true) :
    State.imageLaw { s with bankA := a, bankB := b, save := v } = true := by
  rw [State.imageLaw_iff] at h ⊢
  exact ⟨h.1, h.2.1, ha, hb, hv⟩

theorem State.safe_store {a b : Bank} {v : SaveUnit}
    (h : s.imageLaw = true → State.imageLaw { s with bankA := a, bankB := b, save := v } = true) :
    s.Safe { s with bankA := a, bankB := b, save := v } := by
  refine State.KeepsLaws.safe_of_ports ⟨⟨h, And.intro, id, fun _ => id, id, id⟩, fun ha hf => ⟨ha, ?_⟩, fun hl => ?_⟩ rfl
  · rw [State.flightLaw_iff] at hf ⊢
    exact ⟨h hf.1, hf.2⟩
  · rw [State.lossLaw_iff] at hl ⊢
    exact ⟨h hl.1, hl.2⟩

theorem State.safe_startSave (s : State) : s.Safe s.startSave := by
  have hstart : s.startSave =
      { s with
        bankA := if (chooseBank s.bankA s.bankB).1 = .a then .invalid else s.bankA
        bankB := if (chooseBank s.bankA s.bankB).1 = .a then s.bankB else .invalid
        save := { s.save with
          phase := .writing
          record := some
            { bank := (chooseBank s.bankA s.bankB).1, sequence := (chooseBank s.bankA s.bankB).2
              snapshot := s.snapshot } } } := by
    simp only [State.startSave]
    cases (chooseBank s.bankA s.bankB).1 <;> rfl
  rw [hstart]
  refine State.safe_store fun h => ?_
  obtain ⟨-, -, hA, hB, -⟩ := State.imageLaw_iff.mp h
  refine State.imageLaw_store ?_ ?_ (fun r hr => ?_) h
  · split
    · rfl
    · exact hA
  · split
    · exact hB
    · rfl
  · cases hr
    exact State.lawful_snapshot h

theorem State.safe_closeSave (ok : Bool) (n : Nat) (s : State) : s.Safe (s.closeSave ok n) := by
  unfold State.closeSave
  refine State.Safe.trans (t :=
    { s with save :=
      { phase := .idle, record := none, lastOutcome := if ok then .ok else .failed, lastSequence := n } }) ?_
    ((State.safe_answer _ _).trans (State.safe_post _ _))
  refine State.safe_store (a := s.bankA) (b := s.bankB) fun h => ?_
  obtain ⟨-, -, hA, hB, -⟩ := State.imageLaw_iff.mp h
  exact State.imageLaw_store hA hB (fun r hr => by simp at hr) h

theorem State.safe_setBank {r : SaveRecord} (hr : s.save.record = some r) (verified : Bool) :
    s.Safe (s.setBank r.bank (if verified then .valid r.sequence r.snapshot else .invalid)) := by
  have hlaw : s.imageLaw = true → Bank.lawful (if verified then .valid r.sequence r.snapshot else .invalid) = true := by
    intro h
    cases verified with
    | true => exact (State.imageLaw_iff.mp h).2.2.2.2 r hr
    | false => rfl
  cases hb : r.bank with
  | a =>
    refine State.safe_store (b := s.bankB) (v := s.save) fun h => ?_
    obtain ⟨-, -, -, hB, hrec⟩ := State.imageLaw_iff.mp h
    exact State.imageLaw_store (hlaw h) hB hrec h
  | b =>
    refine State.safe_store (a := s.bankA) (v := s.save) fun h => ?_
    obtain ⟨-, -, hA, -, hrec⟩ := State.imageLaw_iff.mp h
    exact State.imageLaw_store hA (hlaw h) hrec h

theorem execSaveEnd_safe (verified : Bool) (s : State) : ∃ t, execSaveEnd verified s = .next t ∧ s.Safe t := by
  refine ⟨_, rfl, ?_⟩
  split
  next r _ hr => exact (State.safe_setBank hr verified).trans (State.safe_closeSave _ _ _)
  next => exact .refl s

end

end Sys2Proof.Machine

/-! Cold starts, the start steps and the supply hold keep the laws (R65, R88, R175 to R178, R185, R186). -/

namespace Sys2Proof.Machine

section
variable {s t u : State}

/-! ### Cold starts and the start steps (R175 to R178) -/

/-- A device record that claims nothing: LOADING or DORMANT, its entries fresh and its loss count 0. -/
structure Device.Fresh (dv : Device) (target : Profile) : Prop where
  profile : dv.profile = target
  entries : ∀ e ∈ dv.entries, e.Fresh
  state : dv.state = .loading ∨ dv.state = .dormant
  losses : dv.losses = 0

/-- A hub whose devices claim nothing meets the laws. -/
theorem State.keepsLaws_of_fresh (himage : s.imageLaw = true → t.imageLaw = true) (htxn : t.txn = none)
    (hd : ∀ d dv, t.device d = some dv → dv.Fresh t.profiles.target) (hn : t.noticeLaw = true) (hi : t.idleLaw = true) :
    s.KeepsLaws t := by
  refine ⟨⟨himage, fun _ _ => ⟨?_, ?_⟩, fun _ => ?_, fun _ _ => ?_, fun _ => hn, fun _ => hi⟩, fun _ hf => ⟨?_, ?_⟩,
    fun hl => State.lossLaw_of_no_txn (himage (State.lossLaw_iff.mp hl).1) htxn fun d dv hdv => ?_⟩
  · exact State.stagedLaw_iff.mpr fun d dv hdv e he h => absurd h (by simp [((hd d dv hdv).entries e he).staged])
  · exact State.profileLaw_iff.mpr fun d dv hdv => .inl (hd d dv hdv).profile
  · exact State.markLaw_iff.mpr fun d dv hdv e he h => absurd h (by simp [((hd d dv hdv).entries e he).mark])
  · exact State.failLaw_iff.mpr fun d dv hdv => by
      rcases (hd d dv hdv).state with h | h <;> exact Device.failLaw_of_state (by simp [h]) (by simp [h])
  · exact State.appliedLaw_iff.mpr fun d dv hdv e he h => absurd h (by simp [((hd d dv hdv).entries e he).not_applied])
  · rw [State.flightLaw_iff] at hf ⊢
    exact ⟨himage hf.1, fun d dv hdv e he h => absurd h (by simp [((hd d dv hdv).entries e he).not_flight])⟩
  · obtain ⟨-, -, hst, hlosses⟩ := hd d dv hdv
    have hin := ((State.imageLaw_iff.mp (himage (State.lossLaw_iff.mp hl).1)).1 d dv hdv).1
    exact Device.lossLaw_cleared (by rcases hst with h | h <;> simp [h]) hlosses hin

theorem State.safe_of_cold_ports (h : s.KeepsLaws t) (hp : t.ports = ⟨PortSide.cold, PortSide.cold⟩) : s.Safe t := by
  refine ⟨h, fun q => ?_⟩
  rw [show t.port q = PortSide.cold by rw [State.port, hp]; cases q <;> rfl]
  exact ⟨Nat.zero_le _, Nat.zero_le _, .inl (Nat.zero_le _)⟩

theorem State.device_coldStart (s : State) (d : DevNum) : s.coldStart.device d = none := PerDevice.get_const _ d

theorem State.imageLaw_coldStart (h : s.imageLaw = true) : s.coldStart.imageLaw = true := by
  obtain ⟨-, -, hA, hB, -⟩ := State.imageLaw_iff.mp h
  refine State.imageLaw_iff.mpr ⟨fun d dv hd => ?_, Nat.zero_le 320, hA, hB, fun r hr => ?_⟩
  · simp [State.device_coldStart] at hd
  · simp [State.coldStart, SaveUnit.cold] at hr

theorem State.safe_coldStart (s : State) : s.Safe s.coldStart :=
  State.safe_of_cold_ports (State.keepsLaws_of_fresh State.imageLaw_coldStart rfl
    (fun d dv hd => by simp [State.device_coldStart] at hd) rfl rfl) rfl

/-- The snapshot that the start steps select is a bank's (R177). -/
theorem selectBank_lawful {a b : Bank} {x : BankId × Nat × Snapshot} (ha : a.lawful = true) (hb : b.lawful = true)
    (h : selectBank a b = some x) : x.2.2.lawful = true := by
  cases a with
  | invalid =>
    cases b with
    | invalid => simp [selectBank] at h
    | valid m y => cases h; exact hb
  | valid n y =>
    cases b with
    | invalid => cases h; exact ha
    | valid m z =>
      simp only [selectBank] at h
      split at h <;> cases h
      · exact hb
      · exact ha

theorem BankEntry.fresh_build (b : BankEntry) : b.build.Fresh := ⟨rfl, rfl, rfl⟩

theorem BankDevice.fresh_build (target : Profile) (b : BankDevice) : (b.build target).Fresh target := by
  refine ⟨rfl, fun e he => ?_, ?_, rfl⟩
  · obtain ⟨x, -, rfl⟩ := List.mem_map.mp he
    exact x.fresh_build
  · unfold BankDevice.build
    cases b.active <;> simp

theorem BankDevice.registers_build (target : Profile) (b : BankDevice) :
    (b.build target).entries.map Entry.register = b.entries.map BankEntry.register := by
  rw [BankDevice.build, List.map_map]
  rfl

theorem BankDevice.lawful_build {target : Profile} {b : BankDevice} (h : b.lawful = true) : (b.build target).Lawful := by
  rw [BankDevice.lawful, Bool.and_eq_true] at h
  exact ⟨h.1, by rw [BankDevice.registers_build]; exact h.2⟩

theorem coldDevices_get (snap : Option Snapshot) (target : Profile) (d : DevNum) :
    (coldDevices snap target).get d = snap.bind fun x => (x.devices.get d).map (BankDevice.build target) := by
  cases snap with
  | none => exact PerDevice.get_const _ d
  | some x => exact PerDevice.get_ofFn _ d

/-- The image that the start steps build from a lawful snapshot is lawful. -/
theorem State.imageLaw_coldDevices {snap : Option Snapshot} {target : Profile}
    (ht : t.devices = coldDevices snap target) (hx : ∀ x, snap = some x → x.lawful = true)
    (hA : t.bankA.lawful = true) (hB : t.bankB.lawful = true) (hr : t.save.record = none) : t.imageLaw = true := by
  have hdev : ∀ d, t.device d = snap.bind fun x => (x.devices.get d).map (BankDevice.build target) := fun d => by
    rw [State.device, ht, coldDevices_get]
  refine State.imageLaw_iff.mpr ⟨fun d dv hd => ?_, ?_, hA, hB, fun r h => by simp [hr] at h⟩
  · rw [hdev, Option.bind_eq_some_iff] at hd
    obtain ⟨x, rfl, hb⟩ := hd
    obtain ⟨b, hget, rfl⟩ := Option.map_eq_some_iff.mp hb
    exact BankDevice.lawful_build ((Snapshot.lawful_iff.mp (hx x rfl)).1 d b hget)
  · rw [State.poolInUse_eq]
    cases snap with
    | none => simp [hdev, sumDevices]
    | some x =>
      refine le_of_eq_of_le (sumDevices_congr fun d => ?_) (Snapshot.lawful_iff.mp (hx x rfl)).2
      rw [hdev, Option.bind_some, Option.elim_map, Option.elim_map]
      cases x.devices.get d <;> simp [BankDevice.build]

theorem State.safe_startUp (adr : Fin 4) (psel : Profile) (s : State) : s.Safe (s.startUp adr psel) := by
  unfold State.startUp
  refine State.Safe.trans ?_ (State.safe_post _ _)
  refine State.safe_of_cold_ports (State.keepsLaws_of_fresh (fun h => ?_) rfl (fun d dv hd => ?_) rfl rfl) rfl
  · obtain ⟨-, -, hA, hB, -⟩ := State.imageLaw_iff.mp h
    refine State.imageLaw_coldDevices rfl (fun x hx => ?_) hA hB rfl
    obtain ⟨y, hy, rfl⟩ := Option.map_eq_some_iff.mp hx
    exact selectBank_lawful hA hB hy
  · have hd : (coldDevices _ _).get d = some dv := hd
    rw [coldDevices_get, Option.bind_eq_some_iff] at hd
    obtain ⟨x, -, hb⟩ := hd
    obtain ⟨b, -, rfl⟩ := Option.map_eq_some_iff.mp hb
    exact b.fresh_build _

theorem execRstAssert_safe (s : State) : ∃ t, execRstAssert s = .next t ∧ s.Safe t :=
  ⟨_, rfl, s.safe_coldStart.trans (State.safe_inputs _ _)⟩

theorem execRstRelease_safe (s : State) : ∃ t, execRstRelease s = .next t ∧ s.Safe t := ⟨_, rfl, s.safe_inputs _⟩

theorem execPowerUp_safe (s : State) : ∃ t, execPowerUp s = .next t ∧ s.Safe t := by
  refine ⟨_, rfl, ?_⟩
  split
  · exact s.safe_coldStart.trans (State.safe_inputs _ _)
  · exact .refl s

theorem execVddBelowRetainLevel_safe (s : State) : ∃ t, execVddBelowRetainLevel s = .next t ∧ s.Safe t := by
  refine ⟨_, rfl, ?_⟩
  split
  · exact .refl s
  · exact s.safe_coldStart.trans (State.safe_inputs _ _)

theorem execStartStepsComplete_safe (adr : Fin 4) (psel : Profile) (s : State) :
    ∃ t, execStartStepsComplete adr psel s = .next t ∧ s.Safe t := by
  refine ⟨_, rfl, ?_⟩
  split
  · exact s.safe_startUp adr psel
  · exact .refl s

/-! ### The supply hold (R65, R185) -/

/-- An entry of a push that is cut (R65). -/
def Entry.cut (e : Entry) : Entry := if e.isInFlight then { e with state := .pending, applied := none } else e

theorem Entry.register_cut (e : Entry) : e.cut.register = e.register := by
  unfold Entry.cut
  split <;> rfl

theorem Entry.isInFlight_cut (e : Entry) : e.cut.isInFlight = false := by
  unfold Entry.cut
  split
  next => rfl
  next h => exact eq_false_of_ne_true h

theorem Entry.isFailed_cut (e : Entry) : e.cut.isFailed = e.isFailed := by
  unfold Entry.cut
  split
  next h =>
    cases hst : e.state <;> simp [Entry.isInFlight, hst] at h
    simp [Entry.isFailed, hst]
  next => rfl

theorem Entry.tame_cut (c : Bool) (p : Profile) (e : Entry) : e.Tame c p e.cut := by
  unfold Entry.cut
  split
  · exact ⟨⟨fun _ h => Bool.noConfusion h, fun h => Bool.noConfusion h⟩, ⟨.inl, fun h => ⟨h, fun _ => rfl⟩⟩⟩
  · exact .refl c p e

/-- What a cut does to the device of a transaction that is not marked for discard (R65). -/
def State.cutDevice (s : State) (t : Txn) : State :=
  match t.kind with
  | .push => s.modDevice t.device (Device.updateEntry t.register Entry.cut)
  | .probe => s.modDevice t.device fun dv => { dv with probeDue := true, probeRemaining := 0, probeElapsed := 0 }
  | .marker | .manualRead | .manualWrite => s

theorem State.cutTxn_of_txn {t : Txn} (ht : s.txn = some t) :
    s.cutTxn = (if t.discard then s else s.cutDevice t).endTxn t := by
  simp only [State.cutTxn, ht]
  rfl

theorem State.cutTxn_of_none (ht : s.txn = none) : s.cutTxn = s := by
  simp only [State.cutTxn, ht]

theorem State.modDevice_of_none {d : DevNum} (h : s.device d = none) (f : Device → Device) : s.modDevice d f = s := by
  simp only [State.modDevice, h]

theorem State.txn_cutDevice (s : State) (t : Txn) : (s.cutDevice t).txn = s.txn := by
  unfold State.cutDevice
  split <;> simp

theorem State.keepsLaws_cutDevice (s : State) (t : Txn) : s.KeepsLaws (s.cutDevice t) := by
  cases hd : s.device t.device with
  | none =>
    have hsame : s.cutDevice t = s := by
      unfold State.cutDevice
      split
      · exact State.modDevice_of_none hd _
      · exact State.modDevice_of_none hd _
      all_goals rfl
    rw [hsame]
    exact .refl s
  | some dv =>
    unfold State.cutDevice
    split
    · rw [State.modDevice_of_some hd]
      exact State.keepsLaws_updateEntry hd Entry.register_cut Entry.isFailed_cut fun e _ => e.tame_cut _ _
    · rw [State.modDevice_of_some hd]
      exact (State.safe_setTimer hd ⟨0, 0, true, rfl⟩).laws
    all_goals exact .refl s

/-- The cut of a push lands its entry. -/
theorem State.landed_cutDevice {t : Txn} (hk : t.kind = .push) :
    ∀ dv, (s.cutDevice t).device t.device = some dv → ∀ e ∈ dv.entries, e.register = t.register → e.isInFlight = false := by
  intro dv hd e he hr
  simp only [State.cutDevice, hk] at hd
  rw [State.device_modDevice, if_pos rfl, Option.map_eq_some_iff] at hd
  obtain ⟨dv0, -, rfl⟩ := hd
  obtain ⟨y, -, ⟨-, rfl⟩ | ⟨hne, rfl⟩⟩ := Device.mem_updateEntry he
  · exact y.isInFlight_cut
  · exact absurd hr hne

theorem State.keepsLaws_cutTxn (s : State) : s.KeepsLaws s.cutTxn := by
  cases ht : s.txn with
  | none =>
    rw [State.cutTxn_of_none ht]
    exact .refl s
  | some t =>
    rw [State.cutTxn_of_txn ht]
    split
    next hdis => exact State.keepsLaws_endTxn ht fun _ => hdis
    next =>
      exact (s.keepsLaws_cutDevice t).endTxn ((s.txn_cutDevice t).trans ht) fun _ hk _ => State.landed_cutDevice hk

theorem State.txn_cutTxn (s : State) : s.cutTxn.txn = none := by
  cases ht : s.txn with
  | none => rw [State.cutTxn_of_none ht, ht]
  | some t => rw [State.cutTxn_of_txn ht]; rfl

theorem SaveUnit.record_cut (v : SaveUnit) : v.cut.record = v.record := by
  unfold SaveUnit.cut
  split <;> rfl

theorem State.safe_enterHold (s : State) : s.Safe s.enterHold := by
  have hcut : s.Safe s.cutTxn := s.keepsLaws_cutTxn.safe_of_ports s.cutTxn_ports
  refine hcut.trans (State.SameContext.safe
    ⟨rfl, rfl, rfl, rfl, rfl, SaveUnit.record_cut _, id, fun h => ?_⟩ rfl rfl rfl)
  rw [State.idleLaw_iff] at h ⊢
  refine ⟨.inr ⟨s.txn_cutTxn, rfl, rfl⟩, h.2⟩

theorem execVddBelowRunLevel_safe (s : State) : ∃ t, execVddBelowRunLevel s = .next t ∧ s.Safe t := by
  refine ⟨_, rfl, ?_⟩
  split
  · exact s.safe_enterHold.trans (State.safe_inputs _ _)
  · split
    · exact s.safe_inputs _
    · exact .refl s

/-! ### The return to READY (R88, R186) -/

theorem Device.recover_laws (dv : Device) :
    (∀ c, dv.Tame c dv.recover) ∧ dv.LossTame dv.recover ∧ dv.recover.shape = dv.shape := by
  have hload : dv.state ≠ .fenced →
      (∀ c, dv.Tame c dv.beginLoad) ∧ dv.LossTame dv.beginLoad ∧ dv.beginLoad.shape = dv.shape :=
    fun h => ⟨fun c => dv.tame_beginLoad c, Device.lossTame_beginLoad h, dv.shape_beginLoad⟩
  have hsuspect : dv.state = .running ∨ dv.state = .diverged → ∀ dv' : Device,
      dv' = { dv with state := .suspect, probeDue := true, probeRemaining := 0, probeElapsed := 0 } →
      (∀ c, dv.Tame c dv') ∧ dv.LossTame dv' ∧ dv'.shape = dv.shape := by
    rintro h dv' rfl
    refine ⟨fun c => .of_entries rfl rfl fun _ => Device.failLaw_of_state (by simp) (by simp), .of_state rfl rfl ?_ ?_, rfl⟩
    · rcases h with h | h <;> simp [h]
    · rcases h with h | h <;> simp [h]
  unfold Device.recover
  split
  next hst =>
    split
    · exact hload (by simp [hst])
    · exact hsuspect (.inl hst) _ rfl
  next hst =>
    split
    · exact hload (by simp [hst])
    · exact hsuspect (.inr hst) _ rfl
  · exact ⟨fun c => dv.tame_timer c _ _ _, dv.lossTame_timer _ _ _, rfl⟩
  next hst => exact hload (by simp [hst])
  all_goals exact ⟨fun c => .refl c dv, .refl dv, rfl⟩

theorem State.safe_closeAbortedSave (s : State) : s.Safe s.closeAbortedSave := by
  unfold State.closeAbortedSave
  split
  · exact State.safe_closeSave _ _ s
  · exact .refl s

theorem State.safe_leaveHold (s : State) : s.Safe s.leaveHold := by
  have hready : s.Safe { s with hubState := .ready, profiles := s.profiles.newLevel s.inputs.psel } := by
    obtain ⟨htarget, htransition⟩ := ProfileController.newLevel_kept s.inputs.psel s.profiles
    refine State.SameContext.safe
      ⟨rfl, htarget, congrArg (Option.map _) htransition, rfl, rfl, rfl, id, fun h => ?_⟩ rfl rfl rfl
    rw [State.idleLaw_iff] at h ⊢
    exact ⟨.inl rfl, h.2⟩
  have hports (x : State) (q : PortH) (l : PortL) (hx : x.hubState = .ready) :
      x.Safe { x with portH := q, portL := l } := by
    refine State.SameContext.safe ⟨rfl, rfl, rfl, rfl, rfl, rfl, id, fun h => ?_⟩ rfl rfl rfl
    rw [State.idleLaw_iff] at h ⊢
    exact ⟨.inl hx, h.2⟩
  have hdevices : ∀ x : State, x.Safe { x with devices := PerDevice.ofFn fun d => (x.device d).map Device.recover } :=
    fun x => (State.keepsLaws_mapDevices (fun c dv => dv.recover_laws.1 c) (fun dv => dv.recover_laws.2.1)
      fun dv => dv.recover_laws.2.2).safe_of_ports rfl
  have hsave := State.safe_closeAbortedSave
    { s with
      hubState := .ready
      profiles := s.profiles.newLevel s.inputs.psel
      devices := PerDevice.ofFn fun d => (s.device d).map Device.recover }
  have hstate : (State.closeAbortedSave
    { s with
      hubState := .ready
      profiles := s.profiles.newLevel s.inputs.psel
      devices := PerDevice.ofFn fun d => (s.device d).map Device.recover }).hubState = .ready := by
    unfold State.closeAbortedSave
    split
    · rw [State.closeSave_eq]
    · rfl
  exact (((hready.trans (hdevices _)).trans hsave).trans (State.safe_post _ _)).trans (hports _ _ _ (by
    rw [State.post_hubState]
    exact hstate))

theorem execVddAboveRunLevel_safe (s : State) : ∃ t, execVddAboveRunLevel s = .next t ∧ s.Safe t := by
  refine ⟨_, rfl, ?_⟩
  split
  · exact (s.safe_inputs _).trans (State.safe_leaveHold _)
  · exact s.safe_inputs _

end

end Sys2Proof.Machine

/-! The two ports keep the laws and the bounds of the queues (R126, R148 to R173). -/

namespace Sys2Proof.Machine

/-- A happening that keeps the laws and the bounds of the queues. -/
structure State.Kept (s t : State) : Prop where
  laws : s.KeepsLaws t
  queues : s.queueLaw = true → t.queueLaw = true

section
variable {s t u : State}

theorem State.Safe.kept (h : s.Safe t) : s.Kept t := ⟨h.laws, h.queueLaw⟩

theorem State.Kept.refl (s : State) : s.Kept s := ⟨.refl s, id⟩

theorem State.Kept.trans (h : s.Kept t) (k : t.Kept u) : s.Kept u :=
  ⟨h.laws.trans k.laws, fun hs => k.queues (h.queues hs)⟩

/-! ### Changes of a port's own state -/

theorem State.safe_setPortH {q : PortH} (h : q.phase = .inactive ∨ s.portH.phase ≠ .inactive) : s.Safe (s.setPortH q) := by
  refine State.SameContext.safe ⟨rfl, rfl, rfl, rfl, rfl, rfl, id, fun hi => ?_⟩ rfl rfl rfl
  rw [State.idleLaw_iff] at hi ⊢
  exact ⟨hi.1.imp_right fun hq => ⟨hq.1, h.resolve_right (fun hne => hne hq.2.1), hq.2.2⟩, hi.2⟩

theorem State.safe_setPortL {q : PortL} (h : q.framing = .inactive ∨ s.portL.framing ≠ .inactive) :
    s.Safe (s.setPortL q) := by
  refine State.SameContext.safe ⟨rfl, rfl, rfl, rfl, rfl, rfl, id, fun hi => ?_⟩ rfl rfl rfl
  rw [State.idleLaw_iff] at hi ⊢
  exact ⟨hi.1.imp_right fun hq => ⟨hq.1, hq.2.1, h.resolve_right (fun hne => hne hq.2.2)⟩, hi.2⟩

/-- A change of Port H that keeps its phase. -/
theorem State.safe_setPortH_of_phase {q : PortH} (h : q.phase = s.portH.phase) : s.Safe (s.setPortH q) :=
  State.safe_setPortH ((em (q.phase = .inactive)).imp_right fun hne => h ▸ hne)

theorem State.safe_setPortL_of_framing {q : PortL} (h : q.framing = s.portL.framing) : s.Safe (s.setPortL q) :=
  State.safe_setPortL ((em (q.framing = .inactive)).imp_right fun hne => h ▸ hne)

theorem State.keepsLaws_enqueue (s : State) (p : Port) (f : Frame) : s.KeepsLaws (s.enqueue p f) :=
  State.keepsLaws_modPort id

/-- A frame joins a queue that has room (R126). -/
theorem State.kept_enqueue {p : Port} (h : (s.port p).requests.length < 4) (f : Frame) : s.Kept (s.enqueue p f) := by
  refine ⟨s.keepsLaws_enqueue p f, fun hs => ?_⟩
  rw [State.queueLaw_iff] at hs ⊢
  intro q
  have hq := hs q
  simp only [State.port, State.enqueue, State.modPort_ports, PerPort.get_set] at hq ⊢
  split
  next heq =>
    subst heq
    rw [PortSide.queueLaw_iff] at hq ⊢
    obtain ⟨-, hout, hsum⟩ := hq
    refine ⟨?_, hout, hsum⟩
    rw [List.length_append]
    exact h
  next => exact hq

theorem State.kept_deliverH (s : State) (f : Frame) : s.Kept (s.deliverH f) := by
  unfold State.deliverH
  split
  next hroom =>
    have hset : s.Safe (s.setPortH { s.portH with buffer := .empty }) := State.safe_setPortH_of_phase rfl
    refine hset.kept.trans (State.kept_enqueue ?_ f)
    exact of_decide_eq_true hroom
  next => exact State.Safe.kept (State.safe_setPortH_of_phase rfl)

theorem State.kept_deliverL (s : State) (f : Frame) : s.Kept (s.deliverL f) := by
  unfold State.deliverL
  split
  next hroom =>
    have hset : s.Safe (s.setPortL { s.portL with buffer := .empty }) := State.safe_setPortL_of_framing rfl
    refine hset.kept.trans (State.kept_enqueue ?_ f)
    exact of_decide_eq_true hroom
  next => exact State.Safe.kept (State.safe_setPortL_of_framing rfl)

/-! ### Port H (R148 to R159) -/

theorem State.phase_deliverH (s : State) (f : Frame) : (s.deliverH f).portH.phase = s.portH.phase := by
  unfold State.deliverH
  split <;> rfl

theorem State.endWriteH_kept (s : State) (midByte : Bool) :
    s.Kept (s.endWriteH midByte) ∧ (s.endWriteH midByte).portH.phase = s.portH.phase := by
  unfold State.endWriteH
  split
  · exact ⟨State.Safe.kept (State.safe_setPortH_of_phase rfl), rfl⟩
  · exact ⟨s.kept_deliverH _, s.phase_deliverH _⟩
  all_goals exact ⟨.refl s, rfl⟩

theorem State.endBusTransaction_kept (s : State) (midByte : Bool) :
    s.Kept (s.endBusTransaction midByte) ∧ (s.endBusTransaction midByte).portH.phase = s.portH.phase := by
  unfold State.endBusTransaction
  split
  · exact s.endWriteH_kept midByte
  · exact s.endWriteH_kept midByte
  · exact ⟨State.Safe.kept (State.safe_setPortH_of_phase rfl), rfl⟩
  all_goals exact ⟨.refl s, rfl⟩

theorem State.kept_busCondition (s : State) (ph : BusPhase) (n : Nat) : s.Kept (s.busCondition ph n) := by
  unfold State.busCondition
  split
  · exact .refl s
  next h =>
    obtain ⟨hkept, hphase⟩ := s.endBusTransaction_kept (decide (n ≠ 0))
    refine hkept.trans (State.safe_setPortH (.inr ?_)).kept
    rw [hphase]
    exact fun hi => h (.inl hi)

theorem execAddressByte_safe (b : Byte) (s : State) : ∃ t, execAddressByte b s = .next t ∧ s.Safe t := by
  refine ⟨_, rfl, ?_⟩
  split
  next h => exact State.safe_setPortH (.inr (by simp [h]))
  · exact .refl s

theorem execWriteDataByte_safe (b : Byte) (s : State) : ∃ t, execWriteDataByte b s = .next t ∧ s.Safe t := by
  refine ⟨_, rfl, ?_⟩
  unfold PortH.received
  split
  next h _ => split <;> exact State.safe_setPortH (.inr (by simp [h]))
  next h => exact State.safe_setPortH (.inr (by simp [h]))
  · exact State.safe_setPortH_of_phase rfl

/-- A response sent whole leaves its queue. -/
theorem State.safe_dropResponse (s : State) (p : Port) (rest : List Response) (h : rest.length ≤ (s.port p).responses.length) :
    s.Safe (s.modPort p fun q => { q with responses := rest }) :=
  State.safe_modPort ⟨le_rfl, by simpa using h, .inl le_rfl⟩ id

theorem execResponseByteAck_safe (ack : Bool) (s : State) : ∃ t, execResponseByteAck ack s = .next t ∧ s.Safe t := by
  refine ⟨_, rfl, ?_⟩
  split
  · split
    · split
      · exact State.safe_setPortH_of_phase rfl
      · refine State.Safe.trans (t := s.setPortH { s.portH with cursor := .fill }) (State.safe_setPortH_of_phase rfl)
          (State.safe_modPort ⟨le_rfl, ?_, .inl le_rfl⟩ id)
        simp
    · exact .refl s
  · exact .refl s

/-! ### Port L (R161 to R173) -/

theorem execLfrmAssert_safe (s : State) : ∃ t, execLfrmAssert s = .next t ∧ s.Safe t := by
  refine ⟨_, rfl, ?_⟩
  split
  next h => exact (s.safe_inputs _).trans (State.safe_setPortL (.inr (by simp [h])))
  · exact s.safe_inputs _

theorem State.kept_endFrameL (h : s.portL.framing ≠ .inactive) : s.Kept s.endFrameL := by
  unfold State.endFrameL
  split
  · exact (State.safe_setPortL (.inr h)).kept
  · refine State.Kept.trans (t := s.setPortL { s.portL with framing := .idle }) (State.safe_setPortL (.inr h)).kept
      (State.kept_deliverL _ _)
  all_goals exact (State.safe_setPortL (.inr h)).kept

theorem State.framing_endFrameL (s : State) : s.endFrameL.portL.framing = .idle := by
  unfold State.endFrameL State.deliverL
  split
  · rfl
  · split <;> rfl
  all_goals rfl

theorem execLfrmDeassert_kept (s : State) : ∃ t, execLfrmDeassert s = .next t ∧ s.Kept t := by
  refine ⟨_, rfl, ?_⟩
  have hset : s.Safe (s.setLfrm false) := s.safe_inputs _
  have hend (h : s.portL.framing ≠ .inactive) : s.Kept (match s.portL.latch with
      | some _ => (s.setLfrm false).setPortL { s.portL with framing := .ending }
      | none => (s.setLfrm false).endFrameL) := by
    split
    · exact hset.kept.trans (State.safe_setPortL (s := s.setLfrm false) (.inr h)).kept
    · exact hset.kept.trans (State.kept_endFrameL (s := s.setLfrm false) h)
  have hidle (h : s.portL.framing ≠ .inactive) :
      s.Kept ((s.setLfrm false).setPortL { s.portL with framing := .idle }) :=
    hset.kept.trans (State.safe_setPortL (s := s.setLfrm false) (.inr h)).kept
  split
  next h => exact hend (by simp [h])
  next h => exact hend (by simp [h])
  next h => exact hidle (by simp [h])
  next h => exact hidle (by simp [h])
  next h => exact hidle (by simp [h])
  all_goals exact hset.kept

theorem execLstbFall_safe (data : Byte) (s : State) : ∃ t, execLstbFall data s = .next t ∧ s.Safe t := by
  refine ⟨_, rfl, ?_⟩
  unfold PortL.strobed
  split
  · exact State.safe_setPortL_of_framing rfl
  next h _ => exact State.safe_setPortL (.inr (by simp [h]))
  · exact State.safe_setPortL_of_framing rfl
  next h => exact State.safe_setPortL (.inr (by simp [h]))
  · exact State.safe_setPortL_of_framing rfl

theorem State.safe_heldOver (h : s.portL.framing ≠ .inactive) : s.Safe s.heldOver := by
  unfold State.heldOver
  split
  · exact State.safe_setPortL (.inr h)
  · exact .refl s

/-- The take of a latched byte leaves the framing as it is, or ends an OPEN frame's part in DISCARD (R165). -/
theorem PortL.framing_takeByte (b : Byte) (q : PortL) :
    (q.takeByte b).framing = q.framing ∨ q.framing = .opened ∧ (q.takeByte b).framing = .discard := by
  unfold PortL.takeByte
  split
  · split
    · exact .inl rfl
    · by_cases h : q.framing = .opened
      · exact .inr ⟨h, by simp [h]⟩
      · exact .inl (by simp [h])
  all_goals exact .inl rfl

theorem execInboundByteTake_kept (s : State) : ∃ t, execInboundByteTake s = .next t ∧ s.Kept t := by
  refine ⟨_, rfl, ?_⟩
  split
  next b _ _ =>
    have htake : s.Safe (s.setPortL (s.portL.takeByte b)) := by
      rcases PortL.framing_takeByte b s.portL with h | ⟨h, -⟩
      · exact State.safe_setPortL_of_framing h
      · exact State.safe_setPortL (.inr (by simp [h]))
    simp only []
    split
    next hending =>
      have hframing : (s.setPortL (s.portL.takeByte b)).portL.framing = .ending := by
        rcases PortL.framing_takeByte b s.portL with h | ⟨h, -⟩
        · exact h.trans hending
        · simp [hending] at h
      refine (htake.kept.trans (State.kept_endFrameL (by rw [hframing]; simp))).trans (State.safe_heldOver ?_).kept
      simp [State.framing_endFrameL]
    next => exact htake.kept
  · exact .refl s

theorem execOutboundLatchLoad_safe (s : State) : ∃ t, execOutboundLatchLoad s = .next t ∧ s.Safe t := by
  refine ⟨_, rfl, ?_⟩
  split
  · exact State.safe_setPortL_of_framing rfl
  · exact .refl s

theorem State.safe_consumed (s : State) : s.Safe s.consumed := by
  unfold State.consumed
  simp only []
  split
  next r rest hr =>
    split
    · exact State.safe_setPortL_of_framing rfl
    · refine State.Safe.trans (t := s.setPortL { s.portL with outFull := false, cursor := none })
        (State.safe_setPortL_of_framing rfl) (State.safe_dropResponse _ .l rest ?_)
      show rest.length ≤ (s.port .l).responses.length
      simp [hr]
  · exact State.safe_setPortL_of_framing rfl

theorem execLackRise_safe (s : State) : ∃ t, execLackRise s = .next t ∧ s.Safe t := by
  refine ⟨_, rfl, ?_⟩
  split
  · exact State.Safe.trans (t := s.setLack false) (s.safe_inputs _) (State.safe_consumed _)
  · exact s.safe_inputs _

end

end Sys2Proof.Machine

/-! The definition requests keep the laws: entry lists and the record pool (R4, R5, R15 to R20). -/

namespace Sys2Proof.Machine

/-! ### Entry lists in ascending order (R5, R16, R17) -/

/-- An entry of a new register joins an ascending list at its ordered place. -/
theorem ascending_insertEntry {e : Entry} {es : List Entry} (hnew : ∀ x ∈ es, x.register ≠ e.register)
    (h : ascending (es.map Entry.register) = true) : ascending ((insertEntry e es).map Entry.register) = true := by
  rw [ascending_iff_pairwise, List.pairwise_map] at h ⊢
  induction es with
  | nil => exact List.pairwise_singleton _ _
  | cons x xs ih =>
    obtain ⟨hx, hxs⟩ := List.pairwise_cons.mp h
    rw [insertEntry]
    split
    next hlt =>
      refine List.pairwise_cons.mpr ⟨fun y hy => ?_, h⟩
      rcases List.mem_cons.mp hy with rfl | hmem
      · exact hlt
      · exact hlt.trans (hx y hmem)
    next hge =>
      refine List.pairwise_cons.mpr ⟨fun y hy => ?_, ih (fun y hy => hnew y (List.mem_cons_of_mem x hy)) hxs⟩
      rcases (mem_insertEntry e y xs).mp hy with hmem | rfl
      · exact hx y hmem
      · have hne : x.register.toNat ≠ y.register.toNat := fun heq =>
          hnew x List.mem_cons_self (BitVec.eq_of_toNat_eq heq)
        omega

theorem listLaw_iff {c : Register} {rs : List Register} :
    listLaw c rs = true ↔ ascending rs = true ∧ c ∉ rs ∧ rs.length ≤ 128 := by
  simp [listLaw, and_assoc]

theorem Device.lawful_insertEntry {dv : Device} {e : Entry} (h : dv.Lawful) (hnew : ∀ x ∈ dv.entries, x.register ≠ e.register)
    (hcheck : e.register ≠ dv.params.checkRegister) (hroom : dv.entries.length < 128) :
    Device.Lawful { dv with entries := insertEntry e dv.entries } := by
  obtain ⟨hparams, hlist⟩ := h
  rw [listLaw_iff] at hlist
  refine ⟨hparams, listLaw_iff.mpr ⟨ascending_insertEntry hnew hlist.1, fun hmem => ?_, ?_⟩⟩
  · obtain ⟨x, hx, hr⟩ := List.mem_map.mp hmem
    rcases (mem_insertEntry e x _).mp hx with hx | rfl
    · exact hlist.2.1 (List.mem_map.mpr ⟨x, hx, hr⟩)
    · exact hcheck hr
  · rw [List.length_map, length_insertEntry]
    exact hroom

theorem Device.lawful_sublist {dv : Device} {es : List Entry} (h : dv.Lawful) (hes : es.Sublist dv.entries) :
    Device.Lawful { dv with entries := es } := by
  obtain ⟨hparams, hlist⟩ := h
  rw [listLaw_iff, ascending_iff_pairwise] at hlist
  have hmap := hes.map Entry.register
  refine ⟨hparams, listLaw_iff.mpr ⟨(ascending_iff_pairwise _).mpr (hlist.1.sublist hmap),
    fun hmem => hlist.2.1 (hmap.subset hmem), hmap.length_le.trans hlist.2.2⟩⟩

section
variable {s t : State} {d : DevNum} {dv dv' : Device}

/-! ### The record pool (R4) -/

/-- The pool, where one device's record changes. -/
theorem State.poolInUse_setDevice (hd : s.device d = some dv) :
    (s.setDevice d dv').poolInUse + dv.entries.length = s.poolInUse + dv'.entries.length := by
  have hsum := sumDevices_add_of_eq_off (f := fun e => ((s.setDevice d dv').device e).elim 0 fun x => x.entries.length)
    (g := fun e => (s.device e).elim 0 fun x => x.entries.length) d fun e he => by
      rw [State.device_setDevice, if_neg he]
  simpa [State.poolInUse_eq, hd] using hsum

/-- One device's record changed to a lawful one, with the pool within its bound. -/
theorem State.imageLaw_setDevice_of_lawful (hdv : dv'.Lawful) (hpool : (s.setDevice d dv').poolInUse ≤ 320)
    (h : s.imageLaw = true) : (s.setDevice d dv').imageLaw = true := by
  rw [State.imageLaw_iff] at h ⊢
  refine ⟨fun e ev he => ?_, hpool, h.2.2⟩
  rw [State.device_setDevice] at he
  split at he
  · exact Option.some.inj he ▸ hdv
  · exact h.1 e ev he

theorem State.poolInUse_le_of_lawful (h : s.imageLaw = true) : s.poolInUse ≤ 320 := (State.imageLaw_iff.mp h).2.1

theorem State.lawful_of_device (h : s.imageLaw = true) (hd : s.device d = some dv) : dv.Lawful :=
  (State.imageLaw_iff.mp h).1 d dv hd

/-! ### DEFINE_DEVICE and REMOVE_DEVICE (R15, R20) -/

theorem Device.lawful_defined {ps : Params} (h : ps.inRange = true) (P : Profile) : (Device.defined ps P).Lawful :=
  ⟨h, rfl⟩

theorem paramsOf_inRange {c sp vp rl pi fl : Byte} {m : Value} {ps : Params}
    (h : paramsOf c m sp vp rl pi fl = some ps) : ps.inRange = true := by
  unfold paramsOf at h
  split at h
  · split at h
    next hr =>
      cases h
      simpa [Params.inRange, and_assoc] using hr
    next => simp at h
  · simp at h

theorem State.poolInUse_setDevice_of_absent (hd : s.device d = none) (hempty : dv'.entries = []) :
    (s.setDevice d dv').poolInUse = s.poolInUse := by
  have hsum := sumDevices_add_of_eq_off (f := fun e => ((s.setDevice d dv').device e).elim 0 fun x => x.entries.length)
    (g := fun e => (s.device e).elim 0 fun x => x.entries.length) d fun e he => by
      rw [State.device_setDevice, if_neg he]
  simpa [State.poolInUse_eq, hd, hempty] using hsum

/-- A new device's record, with parameters in range and no entries. -/
theorem State.keepsLaws_define {ps : Params} (hd : s.device d = none) (hps : ps.inRange = true) :
    s.KeepsLaws (s.setDevice d (Device.defined ps s.profiles.target)) := by
  have hcases : ∀ {e ev}, (s.setDevice d (Device.defined ps s.profiles.target)).device e = some ev →
      ev = Device.defined ps s.profiles.target ∨ s.device e = some ev := by
    intro e ev he
    rw [State.device_setDevice] at he
    split at he
    · exact .inl (Option.some.inj he).symm
    · exact .inr he
  have himage : s.imageLaw = true → (s.setDevice d (Device.defined ps s.profiles.target)).imageLaw = true := fun h =>
    State.imageLaw_setDevice_of_lawful (Device.lawful_defined hps _)
      ((State.poolInUse_setDevice_of_absent hd rfl).trans_le (State.poolInUse_le_of_lawful h)) h
  refine ⟨⟨himage, fun hs hp => ⟨?_, ?_⟩, fun hm => ?_, fun _ hf => ?_, id, State.idleLaw_congr rfl rfl (.inr rfl) rfl rfl⟩,
    fun ha hf => ⟨?_, ?_⟩, fun hl => ?_⟩
  · rw [State.stagedLaw_iff] at hs ⊢
    intro e ev he x hx
    rcases hcases he with rfl | hev
    · simp [Device.defined] at hx
    · exact hs e ev hev x hx
  · rw [State.profileLaw_iff] at hp ⊢
    intro e ev he
    rcases hcases he with rfl | hev
    · exact .inl rfl
    · exact hp e ev hev
  · rw [State.markLaw_iff] at hm ⊢
    intro e ev he x hx
    rcases hcases he with rfl | hev
    · simp [Device.defined] at hx
    · exact hm e ev hev x hx
  · rw [State.failLaw_iff] at hf ⊢
    intro e ev he
    rcases hcases he with rfl | hev
    · rfl
    · exact hf e ev hev
  · rw [State.appliedLaw_iff] at ha ⊢
    intro e ev he x hx
    rcases hcases he with rfl | hev
    · simp [Device.defined] at hx
    · exact ha e ev hev x hx
  · rw [State.flightLaw_iff] at hf ⊢
    refine ⟨himage hf.1, fun e ev he x hx => ?_⟩
    rcases hcases he with rfl | hev
    · simp [Device.defined] at hx
    · exact hf.2 e ev hev x hx
  · rw [State.lossLaw_iff] at hl ⊢
    refine ⟨himage hl.1, State.markerLaw_iff.mpr fun e he => ?_, fun e ev he => ?_⟩
    · obtain ⟨ev, hev, hst⟩ := State.markerLaw_iff.mp hl.2.1 e he
      refine ⟨ev, ?_, hst⟩
      rw [State.device_setDevice, if_neg]
      · exact hev
      · rintro rfl
        simp [hd] at hev
    · rcases hcases he with rfl | hev
      · exact Device.lossLaw_cleared (by simp [Device.defined]) rfl hps
      · exact hl.2.2 e ev hev

theorem State.device_removeDevice (s : State) (d e : DevNum) :
    (s.removeDevice d).device e = if e = d then none else s.device e := PerDevice.get_set _ _ _ _

/-- A DORMANT device's record removed. -/
theorem State.keepsLaws_removeDevice (hd : s.device d = some dv) (hst : dv.state = .dormant) :
    s.KeepsLaws (s.removeDevice d) := by
  have hcases : ∀ {e ev}, (s.removeDevice d).device e = some ev → s.device e = some ev := by
    intro e ev he
    rw [State.device_removeDevice] at he
    split at he
    · simp at he
    · exact he
  have himage : s.imageLaw = true → (s.removeDevice d).imageLaw = true := by
    intro h
    have hpool := State.poolInUse_add_of_absent (t := s.removeDevice d) hd rfl
    rw [State.imageLaw_iff] at h ⊢
    exact ⟨fun e ev he => h.1 e ev (hcases he), by omega, h.2.2⟩
  have hedit : ∀ e ev, (s.removeDevice d).device e = some ev → ∃ x, s.device e = some x ∧ x.Tame (s.claimed e) ev :=
    fun e ev he => ⟨ev, hcases he, .refl _ ev⟩
  refine ⟨State.keeps_of_edits ⟨rfl, rfl, rfl, rfl, rfl, rfl, id, State.idleLaw_congr rfl rfl (.inr rfl) rfl rfl⟩ himage
      (State.mild_of_edits hedit),
    State.keepsFlights_of_edits himage (State.held_of_edits hedit) (State.carries_of_txn rfl), fun hl => ?_⟩
  rw [State.lossLaw_iff] at hl ⊢
  refine ⟨himage hl.1, State.markerLaw_iff.mpr fun e he => ?_, fun e ev he => hl.2.2 e ev (hcases he)⟩
  obtain ⟨ev, hev, hload⟩ := State.markerLaw_iff.mp hl.2.1 e he
  refine ⟨ev, ?_, hload⟩
  rw [State.device_removeDevice, if_neg]
  · exact hev
  · rintro rfl
    cases hd.symm.trans hev
    simp [hst] at hload

/-! ### ADD_ENTRY, REMOVE_ENTRY and SET_ENTRY_ATTR (R16 to R19) -/

theorem Entry.fresh_added (r : Register) (o : Owner) (base mask : Value) : (Entry.added r o base mask).Fresh :=
  ⟨rfl, rfl, rfl⟩

/-- An entry joins a device's list, and the device is re-examined. -/
theorem State.keepsLaws_addEntry {e : Entry} (he : e.Fresh) (hd : s.device d = some dv)
    (hnew : ∀ x ∈ dv.entries, x.register ≠ e.register) (hcheck : e.register ≠ dv.params.checkRegister)
    (hroom : dv.entries.length < 128) (hpool : s.poolInUse < 320) (granted : Bool) :
    s.KeepsLaws (s.setDevice d (Device.reexamine granted { dv with entries := insertEntry e dv.entries })) := by
  refine State.keepsLaws_setDevice hd (Device.tame_reexamine granted rfl fun e' he' => ?_)
    (Device.lossTame_reexamine granted rfl rfl rfl) fun h => State.imageLaw_setDevice_of_lawful ?_ ?_ h
  · rcases (mem_insertEntry e e' _).mp he' with hmem | rfl
    · exact .inr ⟨e', hmem, .refl _ _ e'⟩
    · exact .inl he
  · have hlawful := Device.lawful_insertEntry (State.lawful_of_device h hd) hnew hcheck hroom
    rwa [Device.Lawful, Device.params_reexamine, Device.entries_reexamine]
  · have hsum := State.poolInUse_setDevice (dv' := Device.reexamine granted { dv with entries := insertEntry e dv.entries }) hd
    rw [Device.entries_reexamine, length_insertEntry] at hsum
    omega

/-- Entries leave a device's list, and the device is re-examined. -/
theorem State.keepsLaws_sublist {es : List Entry} (hd : s.device d = some dv) (hes : es.Sublist dv.entries)
    (granted : Bool) : s.KeepsLaws (s.setDevice d (Device.reexamine granted { dv with entries := es })) := by
  refine State.keepsLaws_setDevice hd
    (Device.tame_reexamine granted rfl fun e' he' => .inr ⟨e', hes.subset he', .refl _ _ e'⟩)
    (Device.lossTame_reexamine granted rfl rfl rfl) fun h => State.imageLaw_setDevice_of_lawful ?_ ?_ h
  · have hlawful := Device.lawful_sublist (State.lawful_of_device h hd) hes
    rwa [Device.Lawful, Device.params_reexamine, Device.entries_reexamine]
  · have hsum := State.poolInUse_setDevice (dv' := Device.reexamine granted { dv with entries := es }) hd
    have hpool := State.poolInUse_le_of_lawful h
    have hlen := hes.length_le
    rw [Device.entries_reexamine] at hsum
    simp only at hsum
    omega

end

end Sys2Proof.Machine

/-! Every request's rule keeps the laws and adds at most one answer due (R127 to R131). -/

namespace Sys2Proof.Machine

/-- The service of a request of port p: the laws kept, and at most one answer more due on that port. -/
structure State.Served (p : Port) (s t : State) : Prop where
  laws : s.KeepsLaws t
  ports : ∀ q, (s.port q).Grows (if q = p then 1 else 0) (t.port q)

section
variable {s t u : State} {p : Port} {d : DevNum} {dv : Device}

theorem PortSide.Grows.weaken {n m : Nat} {a b : PortSide} (h : a.Grows n b) (hnm : n ≤ m) : a.Grows m b := by
  obtain ⟨hreq, hans, hout⟩ := h
  exact ⟨hreq, by omega, by omega⟩

theorem State.Safe.served (h : s.Safe t) (p : Port) : s.Served p t := ⟨h.laws, fun q => (h.ports q).weaken (Nat.zero_le _)⟩

theorem State.Safe.trans_served (h : s.Safe t) (k : t.Served p u) : s.Served p u :=
  ⟨h.laws.trans k.laws, fun q => by simpa using (h.ports q).trans (k.ports q)⟩

theorem State.served_respond (s : State) (p : Port) (tag : Byte) (o : OutcomeCode) (pl : Payload) :
    s.Served p (s.respond p tag o pl) :=
  ⟨s.keepsLaws_respond p tag o pl, State.grows_modPort ⟨le_rfl, by simp; omega, .inl le_rfl⟩⟩

theorem State.served_await (h : s.capFull p = false) (o : Outstanding) : s.Served p (s.await p o) := by
  have hroom : (s.port p).outstanding.length < 4 := by
    simpa [State.capFull] using h
  exact ⟨s.keepsLaws_await p o, State.grows_modPort ⟨le_rfl, by simp; omega, .inr ⟨by simp, by simpa using hroom⟩⟩⟩

/-- A safe happening that is then answered. -/
theorem State.Safe.respond (h : s.Safe t) (p : Port) (tag : Byte) (o : OutcomeCode) (pl : Payload) :
    s.Served p (t.respond p tag o pl) :=
  h.trans_served (t.served_respond p tag o pl)

/-- A safe happening that leaves its request outstanding, on a port with room for it (R130). -/
theorem State.Safe.await (h : s.Safe t) (hf : s.capFull p = false) (o : Outstanding) : s.Served p (t.await p o) := by
  by_cases hroom : t.capFull p = false
  · exact h.trans_served (State.served_await hroom o)
  · have hfull : 4 ≤ (t.port p).outstanding.length := by simpa [State.capFull] using hroom
    have hs : (s.port p).outstanding.length < 4 := by simpa [State.capFull] using hf
    have hle := (h.ports p).outstanding
    omega

/-! ### The take (R126, R127) -/

theorem State.keepsLaws_deliverWaiting (s : State) (p : Port) : s.KeepsLaws (s.deliverWaiting p) := by
  unfold State.deliverWaiting
  split
  · split
    · refine State.KeepsLaws.trans (t := s.setPortH { s.portH with buffer := .empty }) ?_ (State.keepsLaws_enqueue _ _ _)
      exact (State.safe_setPortH_of_phase (q := { s.portH with buffer := .empty }) rfl).laws
    · exact .refl _
  · split
    · refine State.KeepsLaws.trans (t := s.setPortL s.portL.afterDelivery) (State.safe_setPortL ?_).laws (State.keepsLaws_enqueue _ _ _)
      by_cases h : s.portL.framing = .inactive
      · exact .inl (by simp [PortL.afterDelivery, h])
      · exact .inr h
    · exact .refl _

theorem State.keepsLaws_dequeue (s : State) (p : Port) : s.KeepsLaws (s.dequeue p) := by
  have htake : s.KeepsLaws
      { s.modPort p (fun q => { q with requests := q.requests.tail }) with portRotation := otherPort p } :=
    State.KeepsLaws.trans (t := s.modPort p fun q => { q with requests := q.requests.tail }) (State.keepsLaws_modPort id)
      (State.SameContext.keepsLaws
        ⟨rfl, rfl, rfl, rfl, rfl, rfl, id, State.idleLaw_congr rfl rfl (.inr rfl) rfl rfl⟩ rfl rfl)
  exact htake.trans (State.keepsLaws_deliverWaiting _ p)

/-- A take leaves no more frames in a queue than there were (R126). -/
theorem State.requests_dequeue_le (hne : (s.port p).requests ≠ []) (q : Port) :
    ((s.dequeue p).port q).requests.length ≤ (s.port q).requests.length := by
  have hpos := List.length_pos_iff.mpr hne
  unfold State.dequeue State.deliverWaiting
  cases p <;> cases q <;> simp only [] <;> split <;>
    simp [State.port, State.enqueue, PerPort.get, PerPort.set] <;> simp only [State.port, PerPort.get] at hpos <;> omega

theorem State.safe_dequeue (hne : (s.port p).requests ≠ []) : s.Safe (s.dequeue p) :=
  ⟨s.keepsLaws_dequeue p, fun q => ⟨State.requests_dequeue_le hne q, by simp, .inl (by simp)⟩⟩

/-- What a take's port has room for: one answer more (R127). -/
theorem State.room_of_canTake (h : s.canTake p = true) :
    (s.port p).requests ≠ [] ∧ (s.port p).responses.length + (s.port p).outstanding.length < 8 := by
  simp only [State.canTake, Bool.and_eq_true, Bool.not_eq_true', List.isEmpty_eq_false_iff, decide_eq_true_eq] at h
  exact ⟨h.1.2, h.2⟩

/-- A take, and the service of the frame taken. -/
theorem State.kept_of_served (hp : s.nextTake = some p) (h : (s.dequeue p).Served p t) : s.Kept t := by
  obtain ⟨hne, hroom⟩ := State.room_of_canTake (State.canTake_of_nextTake hp)
  have htake := State.safe_dequeue hne
  refine ⟨htake.laws.trans h.laws, fun hs => ?_⟩
  have hq := htake.queueLaw hs
  rw [State.queueLaw_iff] at hq ⊢
  intro q
  obtain ⟨hreq, hans, hout⟩ := h.ports q
  have hbound := PortSide.queueLaw_iff.mp (hq q)
  rw [PortSide.queueLaw_iff]
  by_cases hqp : q = p
  · subst hqp
    simp only [State.dequeue_outstanding, State.dequeue_responses, if_true] at hans hout hbound
    omega
  · simp only [if_neg hqp] at hans hout
    omega

theorem State.kept_takeRequest {k : ReqKind} {act : Byte → Request → State → State}
    (h : ∀ tag r (x : State), x.Served p (act tag r x)) : s.Kept (s.takeRequest p k act) := by
  unfold State.takeRequest
  split
  next hp =>
    split
    next f _ _ =>
      split
      · refine State.kept_of_served hp ?_
        unfold State.judgeFrame
        split
        · exact State.served_respond _ _ _ _ _
        · split
          · exact State.served_respond _ _ _ _ _
          · split
            · exact State.served_respond _ _ _ _ _
            · exact h _ _ _
      · exact .refl s
    · exact .refl s
  next => exact .refl s

theorem execBadFrameTake_kept (p : Port) (s : State) : ∃ t, execBadFrameTake p s = .next t ∧ s.Kept t := by
  refine ⟨_, rfl, ?_⟩
  unfold State.takeBadFrame
  split
  next hp =>
    split
    · split
      · exact .refl s
      · split <;> exact State.kept_of_served hp (State.served_respond _ _ _ _ _)
    · exact .refl s
  next => exact .refl s

/-! ### Status and notice requests -/

theorem State.findDevice_eq_some {b : Byte} (h : s.findDevice b = some (d, dv)) : s.device d = some dv := by
  unfold State.findDevice at h
  split at h
  · obtain ⟨x, hx, heq⟩ := Option.map_eq_some_iff.mp h
    cases heq
    exact hx
  · simp at h

theorem served_reqReadStatus (tag b : Byte) : s.Served p (reqReadStatus p tag b s) := by
  unfold reqReadStatus
  split
  · exact s.served_respond _ _ _ _
  · split <;> exact s.served_respond _ _ _ _

theorem PortSide.noticeLaw_drained {q : PortSide} (h : q.noticeLaw = true) : q.drained.noticeLaw = true := by
  rw [PortSide.noticeLaw_iff] at h ⊢
  have hsub : q.drained.notices.Sublist q.notices := List.drop_sublist _ _
  exact ⟨hsub.length_le.trans h.1, h.2.sublist hsub⟩

theorem served_reqReadNotices (tag : Byte) : s.Served p (reqReadNotices p tag s) :=
  State.Safe.respond (State.safe_modPort ⟨le_rfl, le_rfl, .inl le_rfl⟩ PortSide.noticeLaw_drained) _ _ _ _

theorem served_reqSetNoticeMask (tag : Byte) (mask : BitVec 10) : s.Served p (reqSetNoticeMask p tag mask s) :=
  State.Safe.respond (State.safe_modPort ⟨le_rfl, le_rfl, .inl le_rfl⟩ id) _ _ _ _

theorem served_reqSetAttention (tag : Byte) (x y : Bool) : s.Served p (reqSetAttention p tag x y s) :=
  State.Safe.respond (State.safe_modPort ⟨le_rfl, le_rfl, .inl le_rfl⟩ id) _ _ _ _

/-! ### Definition requests -/

theorem State.safe_clearLate (s : State) (d : DevNum) : s.Safe (s.clearLate d) :=
  State.SameContext.safe ⟨rfl, rfl, rfl, rfl, rfl, rfl, id, State.idleLaw_congr rfl rfl (.inr rfl) rfl rfl⟩ rfl rfl rfl

theorem served_reqDefineDevice (tag b : Byte) {ps : Option Params} (hps : ∀ x, ps = some x → x.inRange = true) :
    s.Served p (reqDefineDevice p tag b ps s) := by
  unfold reqDefineDevice
  split
  next d x _ =>
    split
    · exact s.served_respond _ _ _ _
    next hd =>
      exact (((State.keepsLaws_define hd (hps x rfl)).safe_of_ports rfl).trans (State.safe_clearLate _ d)).respond _ _ _ _
  · exact s.served_respond _ _ _ _

theorem served_reqRemoveDevice (tag b : Byte) : s.Served p (reqRemoveDevice p tag b s) := by
  unfold reqRemoveDevice
  split
  · exact s.served_respond _ _ _ _
  next d dv hf =>
    split
    · exact s.served_respond _ _ _ _
    · split
      · exact s.served_respond _ _ _ _
      next hst =>
        split
        · exact s.served_respond _ _ _ _
        · exact (((State.keepsLaws_removeDevice (State.findDevice_eq_some hf) (not_not.mp hst)).safe_of_ports rfl).trans
            (State.safe_clearLate _ d)).respond _ _ _ _

theorem served_reqAddEntry (tag b r o : Byte) (base mask : Value) : s.Served p (reqAddEntry p tag b r o base mask s) := by
  unfold reqAddEntry
  split
  · exact s.served_respond _ _ _ _
  next d dv hf =>
    split
    · exact s.served_respond _ _ _ _
    · split
      · exact s.served_respond _ _ _ _
      · split
        · exact s.served_respond _ _ _ _
        next hdup =>
          split
          · exact s.served_respond _ _ _ _
          next hspace =>
            rw [findEntry_isSome] at hdup
            push Not at hdup hspace
            rw [State.reexamine_setDevice]
            exact ((State.keepsLaws_addEntry (Entry.fresh_added _ _ _ _) (State.findDevice_eq_some hf) hdup.1 hdup.2
              hspace.1 hspace.2 _).safe_of_ports rfl).respond _ _ _ _

/-- An answer before a device is re-examined, with its record set, is an answer before both. -/
theorem State.reexamine_answer_setDevice (s : State) (d : DevNum) (dv : Device)
    (f : Outstanding → Option (OutcomeCode × Payload)) :
    ((s.setDevice d dv).answer f).reexamine d = (s.answer f).setDevice d (dv.reexamine (s.markerGranted d)) := by
  have hswap : (s.setDevice d dv).answer f = (s.answer f).setDevice d dv := by
    rw [State.answer_eq, State.answer_eq]
    rfl
  rw [hswap, State.reexamine_setDevice]
  simp [State.markerGranted]

theorem State.safe_answerSettled (before s : State) (d : DevNum) : s.Safe (State.answerSettled before d s) :=
  (State.keepsLaws_answerSettled before s d).safe (State.answered_answerSettled before s d)

theorem State.safe_addUnapplied (s : State) (n : Nat) : s.Safe (s.addUnapplied n) :=
  (s.keepsLaws_addUnapplied n).safe_of_ports (State.addUnapplied_ports s n)

theorem State.safe_removeEntry (hd : s.device d = some dv) (e : Entry) : s.Safe (s.removeEntry d dv e) := by
  have hremoved : s.Safe (State.answerSettled s d
      (((s.setDevice d { dv with entries := Machine.removeEntry e.register dv.entries }).answer
        (entryWaitsOn d e.register .aborted)).reexamine d)) := by
    rw [State.reexamine_answer_setDevice]
    refine ((s.safe_answer _).trans (State.KeepsLaws.safe_of_ports (State.keepsLaws_sublist (dv := dv) ?_ ?_ _) rfl)).trans
      (State.safe_answerSettled s _ d)
    · simpa [State.device] using hd
    · exact List.filter_sublist
  unfold State.removeEntry
  simp only []
  split
  · exact (hremoved.trans (State.safe_addUnapplied _ 1)).trans (State.safe_completionTest _)
  · exact hremoved

theorem served_reqRemoveEntry (tag b r : Byte) : s.Served p (reqRemoveEntry p tag b r s) := by
  unfold reqRemoveEntry
  split
  · exact s.served_respond _ _ _ _
  next d dv hf =>
    split
    · exact s.served_respond _ _ _ _
    · split
      · exact s.served_respond _ _ _ _
      · split
        · exact s.served_respond _ _ _ _
        · exact (State.safe_removeEntry (State.findDevice_eq_some hf) _).respond _ _ _ _

theorem Entry.tame_attr (c : Bool) (p : Profile) (o : Owner) (m : Value) (e : Entry) :
    e.Tame c p { e with owner := o, verifyMask := m } :=
  ⟨⟨id, fun h => ⟨h, rfl⟩⟩, ⟨.inl, fun h => ⟨h, id⟩⟩⟩

theorem served_reqSetEntryAttr (tag b r o : Byte) (m : Value) : s.Served p (reqSetEntryAttr p tag b r o m s) := by
  unfold reqSetEntryAttr
  split
  · exact s.served_respond _ _ _ _
  next d dv hf =>
    split
    · exact s.served_respond _ _ _ _
    next owner _ =>
      split
      · exact s.served_respond _ _ _ _
      · exact State.Safe.respond ((State.keepsLaws_updateEntry (f := fun e => { e with owner := owner, verifyMask := m })
          (State.findDevice_eq_some hf) (fun _ => rfl) (fun _ => rfl) fun e _ => e.tame_attr _ _ owner m).safe_of_ports rfl) _ _ _ _

theorem served_reqReadEntry (tag b r : Byte) (onward : Bool) : s.Served p (reqReadEntry p tag b r onward s) := by
  unfold reqReadEntry
  split
  · exact s.served_respond _ _ _ _
  · split <;> exact s.served_respond _ _ _ _

/-! ### WRITE -/

theorem Entry.stageSlot_kept (slot : Fin 4) (c : SlotContent) (e : Entry) :
    (e.stageSlot slot c).register = e.register ∧ (e.stageSlot slot c).state = e.state ∧
      (e.stageSlot slot c).applied = e.applied ∧ (e.stageSlot slot c).mark = e.mark ∧
      ∀ p, (e.stageSlot slot c).desired p = e.desired p := by
  match slot with
  | 0 => cases c <;> exact ⟨rfl, rfl, rfl, rfl, fun _ => rfl⟩
  | 1 | 2 | 3 => exact ⟨rfl, rfl, rfl, rfl, fun _ => rfl⟩

theorem Entry.tame_stageSlot {slot : Fin 4} {c : SlotContent} (p : Profile) (e : Entry) : e.Tame true p (e.stageSlot slot c) := by
  obtain ⟨hreg, hst, happ, hmark, hdes⟩ := e.stageSlot_kept slot c
  refine ⟨⟨fun h hap => ?_, fun hin => ⟨?_, hreg⟩⟩, ⟨fun _ => .inr rfl, fun h => ⟨hmark ▸ h, fun hu => ?_⟩⟩⟩
  · rw [happ, hdes]
    exact h (by simpa only [Entry.isApplied, hst] using hap)
  · simpa only [Entry.isInFlight, hst] using hin
  · simpa only [Entry.isUnsettled, Entry.isPending, Entry.isInFlight, hst] using hu

theorem Entry.hasStaged_commitSlot (slot : Fin 4) (c : SlotContent) (e : Entry) :
    (e.commitSlot slot c).hasStaged = e.hasStaged := by
  match slot with
  | 0 => cases c <;> rfl
  | 1 | 2 | 3 => rfl

theorem State.safe_commitWrite (hd : s.device d = some dv) (r : Register) (slot : Fin 4) (c : SlotContent) :
    s.Safe (s.commitWrite d r slot c) := by
  have hslot := Entry.slotChange_commitSlot slot c
  rw [State.commitWrite_of_device hd]
  refine State.KeepsLaws.safe_of_ports (State.keepsLaws_setDevice hd (Device.tame_reexamine _ rfl fun e' he' => ?_)
    (Device.lossTame_reexamine _ rfl rfl rfl) (State.imageLaw_setDevice hd ?_)) rfl
  · obtain ⟨y, hy, ⟨-, rfl⟩ | ⟨-, rfl⟩⟩ := Device.mem_updateEntry he'
    · exact .inr ⟨y, hy, Entry.tame_change hslot fun h => .inl (by rwa [Entry.hasStaged_commitSlot] at h)⟩
    · exact .inr ⟨e', hy, .refl _ _ e'⟩
  · rw [Device.shape_reexamine]
    exact Device.shape_updateEntry fun e he => (Entry.register_change hslot).trans he

theorem served_reqWrite (tag b r sl : Byte) (wait clear : Bool) (v : Value) :
    s.Served p (reqWrite p tag b r sl wait clear v s) := by
  unfold reqWrite
  split
  · exact s.served_respond _ _ _ _
  next d dv hf =>
    have hd := State.findDevice_eq_some hf
    split
    · exact s.served_respond _ _ _ _
    · split
      · exact s.served_respond _ _ _ _
      · split
        · exact s.served_respond _ _ _ _
        · split
          · exact s.served_respond _ _ _ _
          · simp only []
            split
            next cl hc =>
              split
              · exact s.served_respond _ _ _ _
              · have hclaimed : s.claimed d = true := by rw [State.claimed, hc]; rfl
                refine ((State.keepsLaws_updateEntry hd (fun e => (e.stageSlot_kept _ _).1) (fun e => ?_)
                  fun e _ => hclaimed ▸ e.tame_stageSlot _).safe_of_ports rfl).respond _ _ _ _
                rw [Entry.isFailed, (e.stageSlot_kept _ _).2.1, Entry.isFailed]
            · split
              · exact (State.safe_commitWrite hd _ _ _).respond _ _ _ _
              · split
                · exact s.served_respond _ _ _ _
                next hfull => exact (State.safe_commitWrite hd _ _ _).await (eq_false_of_ne_true hfull) _

end

end Sys2Proof.Machine

/-! The device, claim, profile and save requests keep the laws (R47 to R50, R67 to R69, R87, R95 to R102, R113 to R122,
R179, R181). -/

namespace Sys2Proof.Machine

section
variable {s t u : State} {p : Port} {d : DevNum} {dv dv' : Device}

theorem State.Served.trans_safe (h : s.Served p t) (k : t.Safe u) : s.Served p u :=
  ⟨h.laws.trans k.laws, fun q => (h.ports q).trans (k.ports q)⟩

/-! ### A transaction marked for discard (R59, R60) -/

theorem State.discardTxn_of_other {ks : List TxnKind} (h : ∀ x, s.txn = some x → ¬ (x.device = d ∧ x.kind ∈ ks)) :
    s.discardTxn d ks = s := by
  unfold State.discardTxn
  split
  next x hx => rw [if_neg (h x hx)]
  next => rfl

theorem State.markerGranted_discardTxn {ks : List TxnKind} {e : DevNum} (h : (s.discardTxn d ks).markerGranted e = true) :
    s.markerGranted e = true ∧ ¬ (e = d ∧ .marker ∈ ks) := by
  unfold State.discardTxn at h
  split at h
  next x hx =>
    split at h
    · simp [State.markerGranted] at h
    next hother =>
      refine ⟨h, fun hd => hother ?_⟩
      simp only [State.markerGranted, hx, Bool.and_eq_true, decide_eq_true_eq] at h
      obtain ⟨⟨hk, he⟩, -⟩ := h
      exact ⟨he.trans hd.1, hk ▸ hd.2⟩
  next hx => simp [State.markerGranted, hx] at h

theorem State.Carries.discardTxn {ks : List TxnKind} {e : DevNum} {r : Register} (h : s.Carries e r) (he : e ≠ d) :
    (s.discardTxn d ks).Carries e r := by
  obtain ⟨x, hx, hk, hdev, hreg, hdis⟩ := h
  rw [State.discardTxn_of_other fun y hy hyd => he (by rw [hx, Option.some.injEq] at hy; rw [← hdev, hy, hyd.1])]
  exact ⟨x, hx, hk, hdev, hreg, hdis⟩

theorem State.sameContext_discardTxn (s : State) (d : DevNum) (ks : List TxnKind) : s.SameContext (s.discardTxn d ks) := by
  have htxn : (s.discardTxn d ks).txn.isSome = s.txn.isSome := by
    unfold State.discardTxn
    split
    next hx => split <;> simp [hx]
    next => rfl
  refine ⟨by simp, by simp, by simp, by simp, by simp, by simp, fun h => ?_,
    State.idleLaw_congr (by simp) htxn (.inr (by simp)) (by simp) (by simp)⟩
  simpa [State.noticeLaw, State.port] using h

theorem State.device_discardTxn (s : State) (d : DevNum) (ks : List TxnKind) (e : DevNum) :
    (s.discardTxn d ks).device e = s.device e := by
  rw [State.device, State.discardTxn_devices, State.device]

/-- A transaction of a device with no entry IN_FLIGHT may be marked for discard. -/
theorem State.keepsLaws_discardTxn {ks : List TxnKind} (hd : s.device d = some dv)
    (hno : ∀ e ∈ dv.entries, e.isInFlight = false) : s.KeepsLaws (s.discardTxn d ks) := by
  have himage := State.imageLaw_of_shape (s := s) (t := s.discardTxn d ks) (fun e => by rw [State.device_discardTxn])
    (by simp) (by simp) (by simp)
  have hedit : ∀ e ev, (s.discardTxn d ks).device e = some ev → ∃ ev₀, s.device e = some ev₀ ∧ ev₀.Tame (s.claimed e) ev :=
    fun e ev he => ⟨ev, by rwa [State.device_discardTxn] at he, .refl _ ev⟩
  refine ⟨State.keeps_of_edits (s.sameContext_discardTxn d ks) himage (State.mild_of_edits hedit),
    State.keepsFlights_of_edits himage (State.held_of_edits hedit) fun hf e ev he x hx hin => ?_,
    State.keepsLosses_of_edits himage (fun e he => (State.markerGranted_discardTxn he).1) fun e => ?_⟩
  · refine State.Carries.discardTxn ((State.flightLaw_iff.mp hf).2 e ev he x hx hin) fun hed => ?_
    rw [hed, hd, Option.some.injEq] at he
    exact absurd (hno x (he ▸ hx)) (by simp [hin])
  · rw [State.device_discardTxn]
    exact Device.rel_lossTame_refl _

theorem Device.not_inFlight_of_unloaded (h : dv'.entries = dv.entries.map Entry.unload) :
    ∀ e ∈ dv'.entries, e.isInFlight = false := by
  intro e he
  rw [h, List.mem_map] at he
  obtain ⟨x, -, rfl⟩ := he
  rfl

/-! ### Loads and DEACTIVATE -/

/-- A load begun with its device's transaction marked for discard, on a record that keeps R81. -/
theorem State.safe_load {ks : List TxnKind} (hd : s.device d = some dv) (ht : dv.Tame (s.claimed d) dv')
    (hl : dv.LossTame dv') (hs : dv'.shape = dv.shape) (he : dv'.entries = dv.entries.map Entry.unload) :
    s.Safe ((s.setDevice d dv').discardTxn d ks) := by
  have hset := State.keepsLaws_setDevice hd ht hl (State.imageLaw_setDevice hd hs)
  have hd' : (s.setDevice d dv').device d = some dv' := by simp [State.device]
  exact (hset.trans (State.keepsLaws_discardTxn hd' (Device.not_inFlight_of_unloaded he))).safe_of_ports (by simp)

theorem State.Safe.okOrSettleWait {wait : Bool} (h : s.Safe t) (hf : (wait && s.capFull p) ≠ true) (tag : Byte) (k : ReqKind)
    (d : DevNum) : s.Served p (t.okOrSettleWait p tag k d wait) := by
  unfold State.okOrSettleWait
  split
  next hw => exact h.await (by simpa [hw] using hf) _
  next => exact h.respond _ _ _ _

theorem served_reqActivate (tag b : Byte) (wait : Bool) : s.Served p (reqActivate p tag b wait s) := by
  unfold reqActivate
  split
  · exact s.served_respond _ _ _ _
  next d dv hf =>
    have hd := State.findDevice_eq_some hf
    split
    · exact s.served_respond _ _ _ _
    next hst =>
      split
      · exact s.served_respond _ _ _ _
      next hfull =>
        rw [State.beginLoad_of_device hd]
        have hload := State.keepsLaws_beginLoad hd (by simp [not_not.mp hst])
        exact State.Safe.okOrSettleWait (hload.safe_of_ports rfl) hfull _ _ _

theorem served_reqResync (tag b : Byte) (wait : Bool) : s.Served p (reqResync p tag b wait s) := by
  unfold reqResync
  split
  · exact s.served_respond _ _ _ _
  next d dv hf =>
    have hd := State.findDevice_eq_some hf
    split
    · exact s.served_respond _ _ _ _
    · split
      · exact s.served_respond _ _ _ _
      next hst =>
        split
        · exact s.served_respond _ _ _ _
        · split
          · exact s.served_respond _ _ _ _
          next hfull =>
            rw [State.beginLoad_of_device hd]
            exact (State.safe_load hd (dv.tame_beginLoad _) (Device.lossTame_beginLoad hst) dv.shape_beginLoad
              rfl).okOrSettleWait hfull _ _ _

/-- The record as RESET_DEVICE leaves it: the loss count cleared, and a load begun (R87). -/
def Device.resetLoad (dv : Device) : Device := Device.beginLoad { dv with losses := 0 }

theorem State.resetLoad_of_device (hd : s.device d = some dv) :
    (s.modDevice d fun x => { x with losses := 0 }).beginLoad d = s.setDevice d dv.resetLoad := by
  rw [State.modDevice_of_some hd, State.beginLoad_of_device (dv := { dv with losses := 0 }) (by simp [State.device])]
  simp only [State.setDevice, PerDevice.set_set, Device.resetLoad]

theorem Device.lossTame_resetLoad (dv : Device) : dv.LossTame dv.resetLoad := by
  refine ⟨fun hrange _ => ?_, fun _ => rfl⟩
  simp only [Params.inRange, Bool.and_eq_true, decide_eq_true_eq] at hrange
  simp [Device.lossLaw, Device.resetLoad]
  omega

theorem Device.tame_resetLoad (c : Bool) (dv : Device) : dv.Tame c dv.resetLoad := by
  obtain ⟨hp, he, hfail⟩ := Device.tame_beginLoad c { dv with losses := 0 }
  exact ⟨hp, he, hfail⟩

theorem served_reqResetDevice (tag b : Byte) (wait : Bool) : s.Served p (reqResetDevice p tag b wait s) := by
  unfold reqResetDevice
  split
  · exact s.served_respond _ _ _ _
  next d dv hf =>
    have hd := State.findDevice_eq_some hf
    split
    · exact s.served_respond _ _ _ _
    · split
      · exact s.served_respond _ _ _ _
      · split
        · exact s.served_respond _ _ _ _
        next hfull =>
          rw [State.resetLoad_of_device hd]
          exact (State.safe_load hd (dv.tame_resetLoad _) dv.lossTame_resetLoad (Device.shape_beginLoad _)
            rfl).okOrSettleWait hfull _ _ _

theorem Device.shape_deactivated (dv : Device) : dv.deactivated.shape = dv.shape := by
  simp only [Device.shape, Device.deactivated, List.map_map]
  exact congrArg _ (List.map_congr_left fun _ _ => rfl)

theorem Device.lossLaw_deactivated (h : dv.params.inRange = true) : dv.deactivated.lossLaw = true := by
  simp only [Params.inRange, Bool.and_eq_true, decide_eq_true_eq] at h
  have hpos : 0 < dv.params.fenceLimit := by omega
  exact (if_neg (by simp [Device.deactivated])).trans (decide_eq_true hpos)

/-- DEACTIVATE keeps R81: the device's marker transaction is discarded as the device leaves LOADING. -/
theorem State.keepsLosses_deactivated (hd : s.device d = some dv) :
    s.KeepsLosses ((s.setDevice d dv.deactivated).discardTxn d [.push, .marker, .probe]) := by
  intro hloss
  rw [State.lossLaw_iff] at hloss ⊢
  obtain ⟨hi, hmarker, hdevs⟩ := hloss
  refine ⟨?_, State.markerLaw_iff.mpr fun e he => ?_, fun e ev he => ?_⟩
  · have hset := State.imageLaw_setDevice hd dv.shape_deactivated hi
    exact State.imageLaw_of_shape (s := s.setDevice d dv.deactivated) (fun e => by rw [State.device_discardTxn]) (by simp)
      (by simp) (by simp) hset
  · obtain ⟨hg, hne⟩ := State.markerGranted_discardTxn he
    have hed : e ≠ d := fun h => hne ⟨h, by simp⟩
    rw [State.device_discardTxn, State.device_setDevice, if_neg hed]
    exact State.markerLaw_iff.mp hmarker e hg
  · rw [State.device_discardTxn, State.device_setDevice] at he
    split at he
    next =>
      cases he
      exact Device.lossLaw_deactivated ((State.imageLaw_iff.mp hi).1 d dv hd).1
    next => exact hdevs e ev he

theorem State.safe_deactivate (hd : s.device d = some dv) : s.Safe (s.deactivate d) := by
  have htame : dv.Tame (s.claimed d) dv.deactivated :=
    .map rfl rfl (fun e _ => e.tame_unload _ _) fun _ =>
      Device.failLaw_of_state (by simp [Device.deactivated]) (by simp [Device.deactivated])
  have himage := State.imageLaw_setDevice hd dv.shape_deactivated
  have hd' : (s.setDevice d dv.deactivated).device d = some dv.deactivated := by simp [State.device]
  have hdiscard := State.keepsLaws_discardTxn (ks := [.push, .marker, .probe]) hd'
    (Device.not_inFlight_of_unloaded rfl)
  have hdown : s.KeepsLaws ((s.setDevice d dv.deactivated).discardTxn d [.push, .marker, .probe]) :=
    ⟨(State.keeps_setDevice hd htame himage).trans hdiscard.keeps,
      (State.keepsFlights_setDevice hd htame himage).trans hdiscard.flights, State.keepsLosses_deactivated hd⟩
  have hrest (u : State) : u.Safe (((u.answer (entryWaitsOf d .aborted)).answer (settleWaitsOf d .aborted)).clearMarks d) :=
    ((u.safe_answer _).trans (State.safe_answer _ _)).trans
      ((State.keepsLaws_clearMarks _ d).safe (State.answered_clearMarks _ d))
  simp only [State.deactivate, State.modDevice_of_some hd]
  exact (hdown.safe_of_ports (by simp)).trans (hrest _)

theorem served_reqDeactivate (tag b : Byte) : s.Served p (reqDeactivate p tag b s) := by
  unfold reqDeactivate
  split
  · exact s.served_respond _ _ _ _
  next hf =>
    split
    · exact s.served_respond _ _ _ _
    · split
      · exact s.served_respond _ _ _ _
      · exact (State.safe_deactivate (State.findDevice_eq_some hf)).respond _ _ _ _

/-! ### Manual transfers -/

theorem served_queueTransfer (h : s.capFull p = false) (k : ReqKind) (x : Transfer) : s.Served p (s.queueTransfer p k x) := by
  have hjoin : s.Safe (s.modPort p fun q => { q with manual := q.manual ++ [x] }) :=
    State.safe_modPort ⟨le_rfl, le_rfl, .inl le_rfl⟩ id
  exact hjoin.await h _

theorem served_reqReadDevice (tag b r : Byte) : s.Served p (reqReadDevice p tag b r s) := by
  unfold reqReadDevice
  split
  · exact s.served_respond _ _ _ _
  · split
    · exact s.served_respond _ _ _ _
    next hfull => exact served_queueTransfer (eq_false_of_ne_true hfull) _ _

theorem served_reqRawWrite (tag b r : Byte) (v : Value) : s.Served p (reqRawWrite p tag b r v s) := by
  unfold reqRawWrite
  split
  · exact s.served_respond _ _ _ _
  · split
    · exact s.served_respond _ _ _ _
    · split
      · exact s.served_respond _ _ _ _
      next hfull => exact served_queueTransfer (eq_false_of_ne_true hfull) _ _

/-! ### Claims -/

theorem State.safe_setLate (s : State) (d : DevNum) (p : Port) (m : LateMark) : s.Safe (s.setLate d p m) :=
  (s.keepsLaws_setLate d p m).safe_of_ports rfl

theorem State.safe_setClaim (s : State) (d : DevNum) (c : Claim) : s.Safe (s.setClaim d (some c)) :=
  (State.keepsLaws_setClaim (.inr rfl)).safe_of_ports rfl

theorem served_reqClaim (tag b n : Byte) : s.Served p (reqClaim p tag b n s) := by
  unfold reqClaim
  split
  · exact s.served_respond _ _ _ _
  · split
    · exact s.served_respond _ _ _ _
    · split
      · split
        · exact s.served_respond _ _ _ _
        · exact (State.safe_setClaim s _ _).respond _ _ _ _
      · exact ((State.safe_setClaim s _ _).trans (State.safe_setLate _ _ _ _)).respond _ _ _ _

theorem served_notHolder (tag : Byte) (d : DevNum) : s.Served p (s.notHolder p tag d) := by
  unfold State.notHolder
  split
  · exact (s.safe_setLate d p .none).respond _ _ _ _
  · exact (s.safe_setLate d p .none).respond _ _ _ _
  · split <;> exact s.served_respond _ _ _ _

theorem served_reqCommit (tag b : Byte) (wait : Bool) : s.Served p (reqCommit p tag b wait s) := by
  unfold reqCommit
  split
  · exact s.served_respond _ _ _ _
  next d dv _ =>
    split
    · have hend := s.safe_endClaim d Entry.slotChange_commitStaged Entry.hasStaged_commitStaged
      simp only []
      split
      · exact hend.respond _ _ _ _
      · split
        · exact s.served_respond _ _ _ _
        next hfull => exact hend.await (eq_false_of_ne_true hfull) _
    · exact served_notHolder _ _

theorem served_reqAbandon (tag b : Byte) : s.Served p (reqAbandon p tag b s) := by
  unfold reqAbandon
  split
  · exact s.served_respond _ _ _ _
  · split
    · exact (s.safe_endClaim _ Entry.slotChange_clearStaged Entry.hasStaged_clearStaged).respond _ _ _ _
    · exact served_notHolder _ _

/-! ### Profiles -/

theorem State.safe_switchTo (s : State) (P : Profile) : s.Safe (s.switchTo P) := by
  refine State.KeepsLaws.safe ?_ (s.answered_switchTo P)
  rw [State.switchTo_eq_switched]
  exact s.keepsLaws_switched P

theorem served_selectSame (tag : Byte) (wait : Bool) : s.Served p (s.selectSame p tag wait) := by
  unfold State.selectSame
  split
  · split
    · exact s.served_respond _ _ _ _
    next hfull =>
      split
      · exact s.served_respond _ _ _ _
      · exact State.served_await (eq_false_of_ne_true hfull) _
  · exact s.served_respond _ _ _ _

/-- A port whose transition waits are all answered as one more joins them owes one answer more, and has no more requests
outstanding. -/
theorem PortSide.grows_settledTransition (q : PortSide) {o : Outstanding} (h : o.wait = .transition) (P : Profile) (n : Nat) :
    q.Grows 1 (PortSide.settledTransition P n { q with outstanding := q.outstanding ++ [o] }) := by
  have hpost := PortSide.answered_post (.profileSettled P n) { q with outstanding := q.outstanding ++ [o] }
  have hgone : ∀ a : OutcomeCode × Payload, (toWaiters a o).isNone = false := fun a => by simp [toWaiters, h]
  obtain ⟨hreq, hans, -⟩ := (hpost.trans (PortSide.answered_answer
    (toWaiters (if n = 0 then (.ok, .none) else (.failed, .unapplied n))) _)).grows
  refine ⟨hreq, ?_, .inl ?_⟩
  · simp only [List.length_append, List.length_singleton] at hans
    simp only [PortSide.settledTransition]
    omega
  · have hkept := (hpost.outstanding.filter fun x =>
      (toWaiters (if n = 0 then (.ok, .none) else (.failed, .unapplied n)) x).isNone).length_le
    simp only [List.filter_append, List.filter_singleton, hgone, cond_false, List.append_nil] at hkept
    exact hkept.trans (List.length_filter_le _ _)

theorem State.KeepsLaws.served_await_completionTest {o : Outstanding} {P : Profile} {n : Nat}
    (ho : o.wait = .transition) (h : (s.await p o).completionTest.ports = (s.await p o).eachPort (PortSide.settledTransition P n)) :
    s.Served p (s.await p o).completionTest := by
  refine ⟨(s.keepsLaws_await p o).trans (State.keepsLaws_completionTest _), fun q => ?_⟩
  have hport : (s.await p o).completionTest.port q = PortSide.settledTransition P n ((s.await p o).port q) := by
    rw [State.port, h, State.eachPort]
    cases q <;> rfl
  rw [hport, State.port, State.port, State.await, State.modPort_ports, PerPort.get_set]
  split
  next hq => exact hq ▸ PortSide.grows_settledTransition _ ho P n
  next => exact ((PortSide.answered_post _ _).trans (PortSide.answered_answer _ _)).grows

/-- A switch that settles at once answers the request that would wait on it (R121, R122). -/
theorem State.served_await_of_settles {o : Outstanding} (ho : o.wait = .transition) (htr : s.profiles.transition.isSome = true)
    (hst : s.staysInFlight = false) : s.Served p (s.await p o).completionTest := by
  obtain ⟨x, hx⟩ := Option.isSome_iff_exists.mp htr
  rcases s.completionTest_cases with hsame | ⟨x, hx, hm, hdef, -⟩
  · rw [State.staysInFlight, hsame, htr] at hst
    cases hst
  · refine State.KeepsLaws.served_await_completionTest (P := x.target) (n := x.unapplied) ho ?_
    rw [State.completionTest_settles (s := s.await p o) hx hm hdef]

theorem served_selectOther (tag : Byte) (P : Profile) (wait : Bool) : s.Served p (s.selectOther p tag P wait) := by
  have hswitch := s.safe_switchTo P
  unfold State.selectOther
  simp only []
  split
  · split
    · exact s.served_respond _ _ _ _
    next hroom =>
      cases hfull : s.capFull p with
      | false => exact (hswitch.await hfull _).trans_safe (State.safe_completionTest _)
      | true =>
        refine hswitch.trans_served (State.served_await_of_settles rfl ?_ (by simpa [hfull] using hroom))
        rw [State.switchTo_eq_switched]
        rfl
  · exact (hswitch.trans (State.safe_completionTest _)).respond _ _ _ _

theorem served_reqSelectProfile (tag b : Byte) (wait : Bool) : s.Served p (reqSelectProfile p tag b wait s) := by
  unfold reqSelectProfile
  split
  · exact s.served_respond _ _ _ _
  · split
    · exact s.served_respond _ _ _ _
    · split
      · exact served_selectSame _ _
      · exact served_selectOther _ _ _

theorem State.safe_setSource (s : State) (x : ProfileSource) : s.Safe (s.setSource x) := by
  have hset : s.Safe { s with profiles := { s.profiles with source := x } } := State.safe_profiles rfl rfl
  unfold State.setSource
  simp only []
  split
  · exact hset.trans ((State.keepsLaws_lineSwitch _ _).safe (State.answered_lineSwitch _ _))
  · exact hset

theorem served_reqSetProfileSource (tag b : Byte) : s.Served p (reqSetProfileSource p tag b s) := by
  unfold reqSetProfileSource
  split
  · exact s.served_respond _ _ _ _
  · exact (s.safe_setSource _).respond _ _ _ _

/-! ### SAVE_IMAGE and RESTART -/

theorem served_reqSaveImage (tag : Byte) : s.Served p (reqSaveImage p tag s) := by
  unfold reqSaveImage
  split
  · exact s.served_respond _ _ _ _
  · split
    · exact s.served_respond _ _ _ _
    · split
      · exact s.served_respond _ _ _ _
      next hfull => exact s.safe_startSave.await (eq_false_of_ne_true hfull) _

theorem served_reqRestart (tag : Byte) : s.Served p (reqRestart p tag s) := by
  unfold reqRestart
  split
  · exact s.served_respond _ _ _ _
  · exact s.safe_coldStart.served p

end

end Sys2Proof.Machine

/-! Every step keeps the laws. -/

namespace Sys2Proof.Machine

section
variable {s t : State} {p : Port}

theorem State.Served.refl (s : State) : s.Served p s := (State.Safe.refl s).served p

theorem kept_request {k : ReqKind} {act : Byte → Request → State → State} (h : ∀ tag r (x : State), x.Served p (act tag r x)) :
    ∃ t, (.next (s.takeRequest p k act) : Result) = .next t ∧ s.Kept t :=
  ⟨_, rfl, State.kept_takeRequest h⟩

/-- A command that is safe keeps the laws and the bounds of the queues. -/
theorem kept_of_safe {r : Result} (h : ∃ t, r = .next t ∧ s.Safe t) : ∃ t, r = .next t ∧ s.Kept t :=
  h.imp fun _ h => ⟨h.1, h.2.kept⟩

/-- Every command has a next state, and keeps the laws and the bounds of the queues. -/
theorem exec_kept (c : Instr) (s : State) : ∃ t, exec c s = .next t ∧ s.Kept t := by
  cases c with
  | readStatus p => exact kept_request fun _ _ x => by split; exacts [served_reqReadStatus _ _, .refl x]
  | readNotices p => exact kept_request fun _ _ x => by split; exacts [served_reqReadNotices _, .refl x]
  | setNoticeMask p => exact kept_request fun _ _ x => by split; exacts [served_reqSetNoticeMask _ _, .refl x]
  | setAttention p => exact kept_request fun _ _ x => by split; exacts [served_reqSetAttention _ _ _, .refl x]
  | defineDevice p =>
    exact kept_request fun _ _ x => by split; exacts [served_reqDefineDevice _ _ fun _ h => paramsOf_inRange h, .refl x]
  | removeDevice p => exact kept_request fun _ _ x => by split; exacts [served_reqRemoveDevice _ _, .refl x]
  | addEntry p => exact kept_request fun _ _ x => by split; exacts [served_reqAddEntry _ _ _ _ _ _, .refl x]
  | removeEntry p => exact kept_request fun _ _ x => by split; exacts [served_reqRemoveEntry _ _ _, .refl x]
  | setEntryAttr p => exact kept_request fun _ _ x => by split; exacts [served_reqSetEntryAttr _ _ _ _ _, .refl x]
  | readEntry p => exact kept_request fun _ _ x => by split; exacts [served_reqReadEntry _ _ _ _, .refl x]
  | write p => exact kept_request fun _ _ x => by split; exacts [served_reqWrite _ _ _ _ _ _ _, .refl x]
  | activate p => exact kept_request fun _ _ x => by split; exacts [served_reqActivate _ _ _, .refl x]
  | deactivate p => exact kept_request fun _ _ x => by split; exacts [served_reqDeactivate _ _, .refl x]
  | resync p => exact kept_request fun _ _ x => by split; exacts [served_reqResync _ _ _, .refl x]
  | resetDevice p => exact kept_request fun _ _ x => by split; exacts [served_reqResetDevice _ _ _, .refl x]
  | readDevice p => exact kept_request fun _ _ x => by split; exacts [served_reqReadDevice _ _ _, .refl x]
  | rawWrite p => exact kept_request fun _ _ x => by split; exacts [served_reqRawWrite _ _ _ _, .refl x]
  | claim p => exact kept_request fun _ _ x => by split; exacts [served_reqClaim _ _ _, .refl x]
  | commit p => exact kept_request fun _ _ x => by split; exacts [served_reqCommit _ _ _, .refl x]
  | abandon p => exact kept_request fun _ _ x => by split; exacts [served_reqAbandon _ _, .refl x]
  | selectProfile p => exact kept_request fun _ _ x => by split; exacts [served_reqSelectProfile _ _ _, .refl x]
  | setProfileSource p => exact kept_request fun _ _ x => by split; exacts [served_reqSetProfileSource _ _, .refl x]
  | saveImage p => exact kept_request fun _ _ x => by split; exacts [served_reqSaveImage _, .refl x]
  | restart p => exact kept_request fun _ _ x => by split; exacts [served_reqRestart _, .refl x]
  | probeGrant => exact kept_of_safe (execProbeGrant_safe s)
  | pushGrant => exact kept_of_safe (execPushGrant_safe s)
  | markerGrant => exact kept_of_safe (execMarkerGrant_safe s)
  | manualRead => exact kept_of_safe (execManualRead_safe s)
  | manualWrite => exact kept_of_safe (execManualWrite_safe s)
  | followOnFrameStart => exact kept_of_safe (execFollowOnFrameStart_safe s)
  | pushWriteFrameEnd => exact kept_of_safe (execPushWriteFrameEnd_safe s)
  | readbackEnd bits => exact kept_of_safe (execReadbackEnd_safe bits s)
  | markerWriteFrameEnd => exact kept_of_safe (execMarkerWriteFrameEnd_safe s)
  | confirmReadEnd bits => exact kept_of_safe (execConfirmReadEnd_safe bits s)
  | probeReadEnd bits => exact kept_of_safe (execProbeReadEnd_safe bits s)
  | manualReadFrameEnd bits => exact kept_of_safe (execManualReadFrameEnd_safe bits s)
  | manualWriteFrameEnd => exact kept_of_safe (execManualWriteFrameEnd_safe s)
  | probeTimerExpiry n => exact kept_of_safe (execProbeTimerExpiry_safe n s)
  | claimExpired n => exact kept_of_safe (execClaimExpired_safe n s)
  | pselChange level => exact kept_of_safe (execPselChange_safe level s)
  | lineChange => exact kept_of_safe (execLineChange_safe s)
  | holdChange x => exact ⟨_, rfl, (s.safe_inputs _).kept⟩
  | saveEnd verified => exact kept_of_safe (execSaveEnd_safe verified s)
  | rstAssert => exact kept_of_safe (execRstAssert_safe s)
  | rstRelease => exact kept_of_safe (execRstRelease_safe s)
  | powerUp => exact kept_of_safe (execPowerUp_safe s)
  | vddBelowRunLevel => exact kept_of_safe (execVddBelowRunLevel_safe s)
  | vddAboveRunLevel => exact kept_of_safe (execVddAboveRunLevel_safe s)
  | vddBelowRetainLevel => exact kept_of_safe (execVddBelowRetainLevel_safe s)
  | startStepsComplete adr psel => exact kept_of_safe (execStartStepsComplete_safe adr psel s)
  | startCondition n => exact ⟨_, rfl, s.kept_busCondition .address n⟩
  | stopCondition n => exact ⟨_, rfl, s.kept_busCondition .idle n⟩
  | addressByte b => exact kept_of_safe (execAddressByte_safe b s)
  | writeDataByte b => exact kept_of_safe (execWriteDataByte_safe b s)
  | responseByteAck ack => exact kept_of_safe (execResponseByteAck_safe ack s)
  | lfrmAssert => exact kept_of_safe (execLfrmAssert_safe s)
  | lfrmDeassert => exact execLfrmDeassert_kept s
  | lstbFall data => exact kept_of_safe (execLstbFall_safe data s)
  | inboundByteTake => exact execInboundByteTake_kept s
  | outboundLatchLoad => exact kept_of_safe (execOutboundLatchLoad_safe s)
  | lackAssert => exact ⟨_, rfl, (s.safe_inputs _).kept⟩
  | lackRise => exact kept_of_safe (execLackRise_safe s)
  | badFrameTake p => exact execBadFrameTake_kept p s

theorem State.safe_pending (s : State) (cs : List Instr) : s.Safe { s with pending := cs } :=
  State.SameContext.safe ⟨rfl, rfl, rfl, rfl, rfl, rfl, id, State.idleLaw_congr rfl rfl (.inr rfl) rfl rfl⟩ rfl rfl rfl

/-- Every step keeps the laws and the bounds of the queues. -/
theorem step_kept (h : step s = .next t) : s.Kept t := by
  unfold step at h
  split at h
  next c rest _ =>
    obtain ⟨u, hu, hkept⟩ := exec_kept c { s with pending := rest }
    rw [hu] at h
    cases h
    exact (s.safe_pending rest).kept.trans hkept
  next =>
    cases h
    exact s.safe_tick.kept

end

/-- Settles O5: a take makes room for the answer it adds, and a posting holds the bound and the kinds of the notices. -/
theorem queuesAndNoticeListsStayBounded : Obligations.QueuesAndNoticeListsStayBounded :=
  fun _ _ hqueue hnotice h => ⟨(step_kept h).queues hqueue, (step_kept h).laws.keeps.notices hnotice⟩

/-- Settles O6. -/
theorem theImageStaysLawful : Obligations.TheImageStaysLawful :=
  fun _ _ himage h => (step_kept h).laws.keeps.image himage

/-- Settles O7: a loss that reaches the limit fences its device (R82 to R84), and every other change keeps the count or
clears it. -/
theorem lossCountsStayBelowTheFenceLimit : Obligations.LossCountsStayBelowTheFenceLimit :=
  fun _ _ hloss h => (step_kept h).laws.losses hloss

/-- Settles O8. -/
theorem entriesAreAppliedOrInFlightByRule : Obligations.EntriesAreAppliedOrInFlightByRule :=
  fun _ _ happlied hflight h => (step_kept h).laws.flights happlied hflight

/-- Settles O9. -/
theorem onlyClaimsHoldStagesAndOtherProfiles : Obligations.OnlyClaimsHoldStagesAndOtherProfiles :=
  fun _ _ hstaged hprofile h => (step_kept h).laws.keeps.claims hstaged hprofile

/-- Settles O10. -/
theorem markedEntriesAreUnsettled : Obligations.MarkedEntriesAreUnsettled :=
  fun _ _ hmark h => (step_kept h).laws.keeps.marks hmark

/-- Settles O11. -/
theorem divergedMeansAnEntryHasFailed : Obligations.DivergedMeansAnEntryHasFailed :=
  fun _ _ himage hfail h => ⟨(step_kept h).laws.keeps.image himage, (step_kept h).laws.keeps.fails himage hfail⟩

/-- Settles O12. -/
theorem theLinkIsIdleOutsideReady : Obligations.TheLinkIsIdleOutsideReady :=
  fun _ _ hidle h => (step_kept h).laws.keeps.idle hidle

end Sys2Proof.Machine

/-! The step and the take: the idle millisecond, reset, and the take of a frame (R76, R94, R111, R126, R127). -/

namespace Sys2Proof.Machine

/-- Settles O1. -/
theorem stepRunsTheFrontCommand : Obligations.StepRunsTheFrontCommand := fun _ _ => rfl

/-! ### Reset -/

/-- Settles O3: each field by its value, and each law of the one state by computing it. -/
theorem resetIsAColdStart : Obligations.ResetIsAColdStart := by
  refine ⟨rfl, fun d => ⟨PerDevice.get_const _ d, PerDevice.get_const _ d⟩, fun d p => ?_, rfl, rfl, rfl, rfl, fun p => ?_,
    rfl, rfl, rfl, rfl, rfl, rfl, rfl, rfl, rfl, rfl, by decide, by decide, by decide, by decide, by decide, by decide,
    by decide, by decide, by decide, by decide⟩
  · rw [State.lateMark, show State.reset.late = PerDevice.const ⟨.none, .none⟩ from rfl, PerDevice.get_const]
    cases p <;> rfl
  · cases p <;> rfl

/-! ### The take (R126, R127) -/

section
variable {s : State} {p : Port}

theorem State.canTake_iff :
    s.canTake p = true ↔
      s.hubState = .ready ∧ (s.port p).requests ≠ [] ∧ (s.port p).responses.length + (s.port p).outstanding.length < 8 := by
  simp [State.canTake, State.ready_iff, and_assoc, Config.answerCap]

theorem State.nextTake_iff :
    s.nextTake = some p ↔ s.canTake p = true ∧ (p = s.portRotation ∨ s.canTake (otherPort p) = false) := by
  unfold State.nextTake
  cases hrot : s.portRotation <;> cases p <;> cases hh : s.canTake .h <;> cases hl : s.canTake .l <;>
    simp [otherPort, hh, hl]

/-- A port with no frame waiting COMPLETE delivers none. -/
theorem State.deliverWaiting_of_not_complete (hh : p = .h → s.portH.buffer.isComplete = false)
    (hl : p = .l → s.portL.buffer.isComplete = false) : s.deliverWaiting p = s := by
  unfold State.deliverWaiting
  cases p with
  | h =>
    simp only []
    split
    next hb => exact absurd (hh rfl) (by simp [hb, Buffer.isComplete])
    next => rfl
  | l =>
    simp only []
    split
    next hb => exact absurd (hl rfl) (by simp [hb, Buffer.isComplete])
    next => rfl

theorem PortL.afterDelivery_eq (q : PortL) :
    q.afterDelivery =
      if q.framing = .held then { q with buffer := .assembling [] false, framing := .opened }
      else if q.framing = .heldBroken then { q with buffer := .assembling [] true, framing := .discard }
      else { q with buffer := .empty } := by
  unfold PortL.afterDelivery
  cases h : q.framing <;> simp

end

/-- Settles O4: the guards of the take, then the delivery by the port's buffer. -/
theorem takeMovesTheQueueAndDelivers : Obligations.TakeMovesTheQueueAndDelivers := by
  refine ⟨fun s p => ⟨State.canTake_iff, State.nextTake_iff, by cases p <;> simp [otherPort], by cases p <;> rfl⟩,
    fun s p f rest hq => ⟨fun hh hl => ?_, fun g hp hb => ?_, fun g hp hb => ?_⟩⟩
  · refine (State.deliverWaiting_of_not_complete (by exact hh) (by exact hl)).trans ?_
    rw [State.port] at hq
    simp only [State.modPort, State.port, hq, List.tail_cons]
  · subst hp
    rw [State.port] at hq
    simp [State.dequeue, State.deliverWaiting, State.enqueue, State.modPort, State.setPortH, hb, hq, otherPort, State.port]
  · subst hp
    rw [State.port] at hq
    rw [← PortL.afterDelivery_eq]
    simp [State.dequeue, State.deliverWaiting, State.enqueue, State.modPort, State.setPortL, hb, hq, otherPort, State.port]

/-! ### One millisecond (R76, R94, R103, R111) -/

section
variable {s : State} {d : DevNum}

theorem step_of_idle (h : s.pending = []) : step s = .next s.tick := by simp only [step, h]

theorem State.tickLease_of_unclaimed (h : s.claim d = none) : s.tickLease d = s := by simp only [State.tickLease, h]

/-- With no lease but d's, a millisecond of the leases is one of d's lease. -/
theorem State.tickLeases_of_one (h : ∀ e, e ≠ d → s.claim e = none ∧ (s.tickLease d).claim e = none) :
    (((((s.tickLease 0).tickLease 1).tickLease 2).tickLease 3).tickLease 4).tickLease 5 = s.tickLease d := by
  match d with
  | 0 | 1 | 2 | 3 | 4 | 5 => simp [State.tickLease_of_unclaimed, h]

/-- Where no timer runs, a millisecond leaves every record as it is. -/
theorem State.tickDevices_of_stopped (h : ∀ d dv, s.device d = some dv → dv.timerRuns = false) :
    { s with devices := PerDevice.ofFn fun d => (s.device d).map Device.tick } = s := by
  have hdevices : (PerDevice.ofFn fun d => (s.device d).map Device.tick) = s.devices := by
    refine PerDevice.ext_get fun d => ?_
    rw [PerDevice.get_ofFn, ← State.device]
    cases hd : s.device d with
    | none => rfl
    | some dv => simp [Device.tick, h d dv hd]
  rw [hdevices]

theorem State.tickDebounce_of_none (h : s.profiles.candidate = none) : s.tickDebounce = s := by
  simp [State.tickDebounce, h]

/-- A millisecond in READY with no timer running and at most d's lease. -/
theorem State.tick_of_one_lease (hr : s.hubState = .ready)
    (hother : ∀ e, e ≠ d → s.claim e = none ∧ (s.tickLease d).claim e = none)
    (hstop : ∀ e ev, (s.tickLease d).device e = some ev → ev.timerRuns = false) :
    s.tick = (s.tickLease d).tickDebounce := by
  simp only [State.tick, (State.ready_iff s).mpr hr, if_true, State.tickLeases_of_one hother, State.tickDevices_of_stopped hstop]

theorem State.tickLease_of_counting {c : Claim} (hc : s.claim d = some c) (h : c.elapsed < 9) :
    s.tickLease d = s.setClaim d (some { c with elapsed := c.elapsed + 1 }) := by
  have hlt : c.elapsed + 1 < Config.leaseUnit := by simp only [Config.leaseUnit]; omega
  simp only [State.tickLease, hc, if_pos hlt]

theorem State.tickLease_of_unit {c : Claim} (hc : s.claim d = some c) (h : 9 ≤ c.elapsed) (hl : 1 < c.lease) :
    s.tickLease d = s.setClaim d (some { c with elapsed := 0, lease := c.lease - 1 }) := by
  have hlt : ¬ c.elapsed + 1 < Config.leaseUnit := by simp only [Config.leaseUnit]; omega
  simp only [State.tickLease, hc, if_neg hlt, if_pos hl]

theorem State.tickLease_of_last {c : Claim} (hc : s.claim d = some c) (h : 9 ≤ c.elapsed) (hl : c.lease ≤ 1) :
    s.tickLease d = s.expireClaim d := by
  have hlt : ¬ c.elapsed + 1 < Config.leaseUnit := by simp only [Config.leaseUnit]; omega
  simp only [State.tickLease, hc, if_neg hlt, if_neg (Nat.not_lt.mpr hl)]

/-! ### What an expiry leaves to the rest of its millisecond -/

theorem DevState.managed_reexamine (granted : Bool) (dv : Device) :
    (dv.reexamine granted).state.managed = dv.state.managed := by
  rw [Device.state_reexamine]
  cases dv.state <;> cases dv.anyFailed <;> rfl

theorem Device.timerRuns_reexamine (granted : Bool) (dv : Device) : (dv.reexamine granted).timerRuns = dv.timerRuns := by
  rw [Device.timerRuns, DevState.managed_reexamine, Device.reexamine_eq, Device.timerRuns]

theorem State.claims_expireClaim (s : State) (d : DevNum) : (s.expireClaim d).claims = s.claims.set d none := by
  unfold State.expireClaim
  split
  next c _ =>
    cases hd : s.device d with
    | none =>
      rw [State.endClaim_of_absent (by simpa [State.device] using hd)]
      rfl
    | some dv =>
      rw [State.endClaim_eq_claimEnded (dv := dv) (by simpa [State.device] using hd), State.claims_claimEnded]
      rfl
  next hc =>
    refine PerDevice.ext_get fun e => ?_
    rw [PerDevice.get_set]
    split
    next he => rw [he, ← State.claim, hc]
    next => rfl

/-- An expiry starts no timer. -/
theorem State.timerRuns_expireClaim (h : ∀ e ev, s.device e = some ev → ev.timerRuns = false) :
    ∀ e ev, (s.expireClaim d).device e = some ev → ev.timerRuns = false := by
  intro e ev he
  unfold State.expireClaim at he
  split at he
  next c _ =>
    cases hd : s.device d with
    | none =>
      rw [State.endClaim_of_absent (by simpa [State.device] using hd)] at he
      exact h e ev he
    | some dv =>
      rw [State.device_endClaim (dv := dv) (by simpa [State.device] using hd)] at he
      split at he
      next =>
        cases he
        rw [State.recordAfterClaim, Device.timerRuns_reexamine]
        exact h d dv hd
      next => exact h e ev he
  next => exact h e ev he

theorem State.candidate_expireClaim (s : State) (d : DevNum) : (s.expireClaim d).profiles.candidate = s.profiles.candidate := by
  unfold State.expireClaim
  split
  next c _ =>
    cases hd : s.device d with
    | none => rw [State.endClaim_of_absent (by simpa [State.device] using hd)]; rfl
    | some dv =>
      rw [State.endClaim_eq_claimEnded (dv := dv) (by simpa [State.device] using hd), State.claimEnded]
      split
      · rcases State.completionTest_transition _ with h | h <;> rw [h] <;> rfl
      · rfl
  next => rfl

/-! ### The idle step -/

/-- A millisecond with no lease counts the timers and the debounce. -/
theorem State.tick_of_unclaimed (hr : s.hubState = .ready) (hc : s.claims = PerDevice.const none) :
    s.tick = State.tickDebounce { s with devices := PerDevice.ofFn fun d => (s.device d).map Device.tick } := by
  have hnone : ∀ d, s.claim d = none := fun d => by rw [State.claim, hc, PerDevice.get_const]
  simp only [State.tick, (State.ready_iff s).mpr hr, if_true, State.tickLease_of_unclaimed (hnone _)]

theorem exec_probeTimerExpiry_of_runs {dv : Device} (hr : s.hubState = .ready) (hd : s.device d = some dv)
    (ht : dv.timerRuns = true) : exec (.probeTimerExpiry d.val) s = .next (s.setDevice d dv.timerOut) := by
  have hnum : devNum? d.val = some d := by simp [devNum?]
  simp only [exec, execProbeTimerExpiry, hnum, State.probeTimerOut, hd, (State.ready_iff s).mpr hr, ht, Bool.and_true, if_true]

theorem exec_claimExpired_of_ready (hr : s.hubState = .ready) (d : DevNum) :
    exec (.claimExpired d.val) s = .next (s.expireClaim d) := by
  have hnum : devNum? d.val = some d := by simp [devNum?]
  simp only [exec, execClaimExpired, hnum, (State.ready_iff s).mpr hr, if_true]

/-- A timer's millisecond, by what it has counted (R76). -/
theorem Device.tick_of_runs {dv : Device} (ht : dv.timerRuns = true) :
    (dv.probeElapsed < 3 → dv.tick = { dv with probeElapsed := dv.probeElapsed + 1 }) ∧
    (3 ≤ dv.probeElapsed → 1 < dv.probeRemaining →
      dv.tick = { dv with probeElapsed := 0, probeRemaining := dv.probeRemaining - 1 }) ∧
    (3 ≤ dv.probeElapsed → dv.probeRemaining ≤ 1 → dv.tick = dv.timerOut) := by
  simp only [Device.tick, ht, if_true, Config.probeUnit]
  refine ⟨fun h => if_pos (by omega), fun h hr => ?_, fun h hr => ?_⟩
  · rw [if_neg (by omega), if_pos hr]
  · rw [if_neg (by omega), if_neg (by omega)]

/-- The lease's share of an idle step: no timer runs and no candidate is set, so the millisecond is the lease's alone. -/
theorem step_of_one_lease {c : Claim} (hp : s.pending = []) (hr : s.hubState = .ready) (hn : s.profiles.candidate = none)
    (hstop : ∀ d dv, s.device d = some dv → dv.timerRuns = false) (hc : s.claims = (PerDevice.const none).set d (some c)) :
    step s = .next (s.tickLease d) := by
  have hclaim : s.claim d = some c := by rw [State.claim, hc, PerDevice.get_set_self]
  have hother : ∀ e, e ≠ d → s.claims.get e = none := fun e he => by rw [hc, PerDevice.get_set_ne _ he, PerDevice.get_const]
  have hset : ∀ o e, e ≠ d → (s.claims.set d o).get e = none := fun o e he => by rw [PerDevice.get_set_ne _ he, hother e he]
  have hafter : (∀ e, e ≠ d → (s.tickLease d).claim e = none) ∧
      (∀ e ev, (s.tickLease d).device e = some ev → ev.timerRuns = false) ∧ (s.tickLease d).profiles.candidate = none := by
    rcases Nat.lt_or_ge c.elapsed 9 with hlt | hge
    · rw [State.tickLease_of_counting hclaim hlt]
      exact ⟨hset _, hstop, hn⟩
    · rcases Nat.lt_or_ge 1 c.lease with hl | hl
      · rw [State.tickLease_of_unit hclaim hge hl]
        exact ⟨hset _, hstop, hn⟩
      · rw [State.tickLease_of_last hclaim hge hl]
        exact ⟨fun e he => by rw [State.claim, State.claims_expireClaim, hset _ e he], State.timerRuns_expireClaim hstop,
          (s.candidate_expireClaim d).trans hn⟩
  obtain ⟨hclaims, htimers, hcand⟩ := hafter
  rw [step_of_idle hp, State.tick_of_one_lease hr (fun e he => ⟨hother e he, hclaims e he⟩) htimers,
    State.tickDebounce_of_none hcand]

end

/-- Settles O2: outside READY, and then the timers, one lease and the debounce, each where nothing else counts. -/
theorem idleStepCountsOneMillisecond : Obligations.IdleStepCountsOneMillisecond := by
  intro s hp
  refine ⟨fun hr => ?_, fun hr hc hn => ?_, fun hr hn hstop d c hc => ?_, fun hr hc hstop level hl => ?_⟩
  · rw [step_of_idle hp, State.tick, (State.ready_eq_false_iff s).mpr hr]
    rfl
  · refine ⟨_, (step_of_idle hp).trans (congrArg Host.Outcome.next ((State.tick_of_unclaimed hr hc).trans
      (State.tickDebounce_of_none hn))), rfl, fun d => ?_⟩
    have hdev : State.device { s with devices := PerDevice.ofFn fun d => (s.device d).map Device.tick } d =
      (s.device d).map Device.tick := PerDevice.get_ofFn _ d
    rw [hdev]
    refine ⟨fun hd => by rw [hd]; rfl, fun dv hd => ?_⟩
    rw [hd, Option.map_some]
    refine ⟨fun ht => by simp [Device.tick, ht], fun ht h => ?_, fun ht h h' => ?_, fun ht h h' => ?_⟩
    · rw [(Device.tick_of_runs ht).1 h]
    · rw [(Device.tick_of_runs ht).2.1 h h']
    · refine ⟨_, exec_probeTimerExpiry_of_runs hr hd ht, ?_⟩
      rw [(Device.tick_of_runs ht).2.2 h h', State.device_setDevice, if_pos rfl]
  · have hclaim : s.claim d = some c := by rw [State.claim, hc, PerDevice.get_set_self]
    rw [step_of_one_lease hp hr hn hstop hc, exec_claimExpired_of_ready hr]
    refine ⟨fun h => ?_, fun h h' => ?_, fun h h' => ?_⟩
    · rw [State.tickLease_of_counting hclaim h, State.setClaim]
    · rw [State.tickLease_of_unit hclaim h h', State.setClaim]
    · rw [State.tickLease_of_last hclaim h h']
  · have hcand : s.profiles.candidate.isSome = true := by rw [hl]; rfl
    rw [step_of_idle hp, State.tick_of_unclaimed hr hc, State.tickDevices_of_stopped hstop, State.tickDebounce, if_pos hcand]
    refine ⟨fun ht => ?_, fun ht => ?_⟩
    · simp [ht, Config.debounceTime]
    · simp [ht, Config.debounceTime, exec, execLineChange, (State.ready_iff s).mpr hr]

end Sys2Proof.Machine

/-! Request frames and the formats of responses, notices and payloads (R189 to R194). -/

namespace Sys2Proof.Machine

/-- Settles O13: the frame's request by `Request.request_frame`, and its length and zero fields by the validation. -/
theorem framesDecodeToTheirRequest : Obligations.FramesDecodeToTheirRequest := by
  intro r tag h
  have hrequest := r.request_frame h
  have hnames := r.names_frame h
  obtain ⟨hlen, -, hzero⟩ := (Frame.request_isSome_iff hnames).mp (by rw [hrequest]; rfl)
  exact ⟨hrequest, hnames, rfl, hlen, hzero⟩

/-! ### Bytes of numbers and flags -/

theorem hiByte_ofNat (n : Nat) : hiByte (BitVec.ofNat 16 n) = BitVec.ofNat 8 (n / 256) := by
  refine BitVec.eq_of_toNat_eq ?_
  simp only [hiByte, BitVec.extractLsb'_toNat, BitVec.toNat_ofNat, Nat.shiftRight_eq_div_pow]
  omega

theorem loByte_ofNat (n : Nat) : loByte (BitVec.ofNat 16 n) = BitVec.ofNat 8 n := by
  refine BitVec.eq_of_toNat_eq ?_
  simp only [loByte, BitVec.extractLsb'_toNat, BitVec.toNat_ofNat, Nat.shiftRight_zero]
  omega

theorem twoBytes_ofNat (n : Nat) : twoBytes (BitVec.ofNat 16 n) = [BitVec.ofNat 8 (n / 256), BitVec.ofNat 8 n] := by
  rw [twoBytes, hiByte_ofNat, loByte_ofNat]

theorem fourBytes_eq (n : Nat) :
    fourBytes n =
      [BitVec.ofNat 8 (n / 256 / 256 / 256), BitVec.ofNat 8 (n / 256 / 256), BitVec.ofNat 8 (n / 256), BitVec.ofNat 8 n] := by
  have htwo : n / 65536 = n / 256 / 256 := by omega
  have hthree : n / 16777216 = n / 256 / 256 / 256 := by omega
  rw [fourBytes, htwo, hthree]
  rfl

theorem ofNat_eight_congr {m n : Nat} (h : m % 256 = n % 256) : BitVec.ofNat 8 m = BitVec.ofNat 8 n :=
  BitVec.eq_of_toNat_eq (by simpa using h)

theorem byteOf_boolBits (a b c d e : Bool) :
    byteOf (boolBit a 1 + boolBit b 2 + boolBit c 4 + boolBit d 8 + boolBit e 16) =
      byteOfBits false false false e d c b a := by
  revert a b c d e
  decide

theorem byteOf_boolBits_four (a b c d : Bool) :
    byteOf (boolBit a 1 + boolBit b 2 + boolBit c 4 + boolBit d 8) = byteOfBits false false false false d c b a :=
  byteOf_boolBits a b c d false

theorem byteOf_stagedCodes (x y z : Option SlotContent) :
    byteOf (stagedCode x + 4 * stagedCode y + 16 * stagedCode z) =
      byteOfBits false false (decide (z = some .clear)) (stagedValue z).isSome (decide (y = some .clear))
        (stagedValue y).isSome (decide (x = some .clear)) (stagedValue x).isSome := by
  have hcode : ∀ w : Option SlotContent, stagedCode w =
      (if decide (w = some .clear) = true then 2 else 0) + (if (stagedValue w).isSome = true then 1 else 0) := by
    rintro (_ | _ | _) <;> rfl
  simp only [hcode]
  generalize decide (x = some .clear) = a, (stagedValue x).isSome = b, decide (y = some .clear) = c,
    (stagedValue y).isSome = d, decide (z = some .clear) = e, (stagedValue z).isSome = f
  revert a b c d e f
  decide

/-! ### Notice records (R192) -/

theorem Notice.record_eq (n : Notice) :
    n.record = [byteOf n.kind.code, n.deviceByte, BitVec.ofNat 8 (n.detail / 256), BitVec.ofNat 8 n.detail] := by
  rw [Notice.record, twoBytes_ofNat]
  rfl

theorem Notice.record_of_detail_zero {n : Notice} (h : n.detail = 0) :
    n.record = [byteOf n.kind.code, n.deviceByte, 0, 0] := by
  rw [Notice.record_eq, h]
  rfl

theorem Notice.length_record (n : Notice) : n.record.length = 4 := by
  rw [Notice.record_eq]
  rfl

theorem Notice.record_profileSettled (P : Profile) (n : Nat) :
    (Notice.profileSettled P n).record =
      [8, 255, BitVec.ofNat 8 (64 * P.val + (if n = 0 then 0 else 32) + n / 256), BitVec.ofNat 8 n] := by
  have hP := P.isLt
  have hhigh : (Notice.profileSettled P n).detail / 256 = 64 * P.val + (if n = 0 then 0 else 32) + n / 256 := by
    simp only [Notice.detail]
    split <;> omega
  have hlow : (Notice.profileSettled P n).detail % 256 = n % 256 := by
    simp only [Notice.detail]
    split <;> omega
  rw [Notice.record_eq, hhigh, ofNat_eight_congr hlow]
  rfl

theorem Notice.record_saveDone (ok : Bool) (n : Nat) :
    (Notice.saveDone ok n).record =
      [9, 255, BitVec.ofNat 8 ((if ok then 0 else 128) + n / 256 % 128), BitVec.ofNat 8 n] := by
  have hhigh : (Notice.saveDone ok n).detail / 256 = (if ok then 0 else 128) + n / 256 % 128 := by
    cases ok <;> simp only [Notice.detail, if_true, Bool.false_eq_true, if_false] <;> omega
  have hlow : (Notice.saveDone ok n).detail % 256 = n % 256 := by
    cases ok <;> simp only [Notice.detail, if_true, Bool.false_eq_true, if_false] <;> omega
  rw [Notice.record_eq, hhigh, ofNat_eight_congr hlow]
  rfl

theorem Notice.record_loadDone (d : DevNum) {n : Nat} (h : n ≤ 128) :
    (Notice.loadDone d n).record = [3, BitVec.ofNat 8 d.val, 0, BitVec.ofNat 8 n] := by
  have hhigh : (Notice.loadDone d n).detail / 256 = 0 := Nat.div_eq_of_lt (Nat.lt_of_le_of_lt h (by decide))
  rw [Notice.record_eq, hhigh]
  rfl

theorem Notice.record_entryFailed (d : DevNum) (r : Register) :
    (Notice.entryFailed d r).record = [4, BitVec.ofNat 8 d.val, 0, r] := by
  have hhigh : (Notice.entryFailed d r).detail / 256 = 0 := Nat.div_eq_of_lt r.isLt
  have hlow : BitVec.ofNat 8 (Notice.entryFailed d r).detail = r := by simp [Notice.detail]
  rw [Notice.record_eq, hhigh, hlow]
  rfl

theorem Notice.flatMap_record (ns : List Notice) : ns.flatMap Notice.record = (ns.map Notice.record).flatten := rfl

theorem Notice.length_flatMap_record (ns : List Notice) : (ns.flatMap Notice.record).length = 4 * ns.length := by
  induction ns with
  | nil => rfl
  | cons n ns ih =>
    rw [List.flatMap_cons, List.length_append, ih, Notice.length_record, List.length_cons]
    omega

/-! ### The length of a response (R191) -/

theorem Response.length_bytes (r : Response) : r.bytes.length = 3 + r.payload.bytes.length := by
  simp only [Response.bytes, List.length_cons]
  omega

theorem Payload.length_notices (ns : List Notice) (more lost : Bool) :
    (Payload.notices ns more lost).bytes.length = 1 + 4 * ns.length := by
  rw [Payload.bytes, List.length_cons, Notice.length_flatMap_record, Nat.add_comm]

/-- The longest payload is the 33 bytes of 8 notices. -/
theorem Payload.length_bytes_le {pl : Payload} (h : ∀ ns more lost, pl = .notices ns more lost → ns.length ≤ 8) :
    pl.bytes.length ≤ 33 := by
  cases pl with
  | notices ns more lost =>
    have hns := h ns more lost rfl
    rw [Payload.length_notices]
    omega
  | none | value _ | count _ | unapplied _ | sequence _ | entry _ | hub _ | device _ =>
    exact Nat.le_of_ble_eq_true rfl

/-! ### The statement -/

/-- Settles O19: the lengths by the payload, and each layout field by field. -/
theorem responsesHaveTheirLength : Obligations.ResponsesHaveTheirLength := by
  refine ⟨fun r => ⟨rfl, rfl, fun ns more lost hp => ?_, fun view hp => ?_, fun form hp => ?_, fun form hp => ?_, fun h => ?_⟩,
    by decide, fun v => rfl, fun n => ⟨rfl, twoBytes_ofNat n, fourBytes_eq n⟩, rfl, fun o n ok P d reg => ?_,
    fun ns more lost _ => ?_, fun view two clear content htwo hclear hcontent => ?_, fun form => ?_, fun form => ?_⟩
  · rw [Response.length_bytes, hp, Payload.length_notices]
    omega
  · rw [Response.length_bytes, hp]
    rfl
  · rw [Response.length_bytes, hp]
    rfl
  · rw [Response.length_bytes, hp]
    rfl
  · have hle := Payload.length_bytes_le h
    have hlen := r.length_bytes
    have hlength : r.length = r.bytes.length - 1 := by
      rw [Response.length]
      omega
    refine ⟨by omega, ?_, ?_⟩
    · rw [← hlength]
      rfl
    · rw [byteOf, BitVec.toNat_ofNat, Nat.mod_eq_of_lt (by omega)]
  · exact ⟨by cases o <;> rfl, Notice.record_of_detail_zero rfl, Notice.record_loadDone d, Notice.record_entryFailed d reg,
      Notice.record_of_detail_zero rfl, Notice.record_of_detail_zero rfl, Notice.record_of_detail_zero rfl,
      fun _ => Notice.record_profileSettled P n, Notice.record_saveDone ok n, Notice.record_of_detail_zero rfl⟩
  · rw [Payload.bytes, Notice.flatMap_record]
    cases more <;> cases lost <;> rfl
  · have htwo' : two = twoBytes := funext htwo
    have hcontent' : content = stagedValue := funext fun c => by
      rw [hcontent]
      rcases c with _ | _ | _ <;> rfl
    have hclear' : clear = fun c => decide (c = some .clear) := funext hclear
    subst htwo' hcontent' hclear'
    rw [Payload.bytes, EntryView.bytes, byteOf_boolBits, byteOf_stagedCodes]
    cases view.owner <;> cases view.state <;> rfl
  · change form.bytes = _
    rw [HubForm.bytes, byteOf_boolBits_four, twoBytes_ofNat]
    have hstates : devNums.map (fun d => byteOf (devStateCode (form.devices.get d))) =
        [form.devices.d0, form.devices.d1, form.devices.d2, form.devices.d3, form.devices.d4, form.devices.d5].map
          fun x => byteOf (devStateCode x) := rfl
    rw [hstates]
    refine congrArg₂ (· ++ ·) ?_ (List.map_congr_left fun x _ => ?_)
    · cases form.transition <;> cases form.lastOutcome <;> cases form.origin <;> rfl
    · rcases x with _ | _ | _ | _ | _ | _ | _ <;> rfl
  · rw [Payload.bytes, DeviceForm.bytes]
    cases form.state <;> cases form.phase <;> rcases form.claim with _ | ⟨_ | _, _⟩ <;> rfl

end Sys2Proof.Machine

/-! The configuration image's requests on entries, and what every request that names a device answers first (R1, R16 to R19,
R97). -/

namespace Sys2Proof.Machine

section
variable {s : State} {p : Port} {tag b r o : Byte} {mask base : Value} {d : DevNum} {dv : Device}

/-! ### No defined device (R1) -/

/-- A request whose device operand names no defined device is answered NOT_FOUND. -/
theorem exec_of_no_device {r : Request} (ht : s.Takes p r tag) (hb : r.device? = some b) (hn : ∀ d dv, ¬ s.Names b d dv) :
    exec (r.kind.command p) s = .next ((s.dequeue p).respond p tag .notFound .none) := by
  have hf : (s.dequeue p).findDevice b = none := by
    rw [State.findDevice_dequeue]
    exact State.findDevice_eq_none hn
  have htake := State.takeRequest_of_takes ht
  cases r with
  | readStatus x =>
    have hx : x ≠ 255 := fun h => by simp [Request.device?, h] at hb
    obtain ⟨-, rfl⟩ : ¬ x = 255 ∧ x = b := by simpa [Request.device?] using hb
    exact congrArg Host.Outcome.next ((htake _).trans (by simp only [reqReadStatus, hf, if_neg hx]))
  | removeDevice x => cases hb; exact congrArg Host.Outcome.next ((htake _).trans (by simp only [reqRemoveDevice, hf]))
  | addEntry x _ _ _ _ => cases hb; exact congrArg Host.Outcome.next ((htake _).trans (by simp only [reqAddEntry, hf]))
  | removeEntry x _ => cases hb; exact congrArg Host.Outcome.next ((htake _).trans (by simp only [reqRemoveEntry, hf]))
  | setEntryAttr x _ _ _ => cases hb; exact congrArg Host.Outcome.next ((htake _).trans (by simp only [reqSetEntryAttr, hf]))
  | readEntry x _ _ => cases hb; exact congrArg Host.Outcome.next ((htake _).trans (by simp only [reqReadEntry, hf]))
  | write x _ _ _ _ _ => cases hb; exact congrArg Host.Outcome.next ((htake _).trans (by simp only [reqWrite, hf]))
  | activate x _ => cases hb; exact congrArg Host.Outcome.next ((htake _).trans (by simp only [reqActivate, hf]))
  | deactivate x => cases hb; exact congrArg Host.Outcome.next ((htake _).trans (by simp only [reqDeactivate, hf]))
  | resync x _ => cases hb; exact congrArg Host.Outcome.next ((htake _).trans (by simp only [reqResync, hf]))
  | resetDevice x _ => cases hb; exact congrArg Host.Outcome.next ((htake _).trans (by simp only [reqResetDevice, hf]))
  | readDevice x _ => cases hb; exact congrArg Host.Outcome.next ((htake _).trans (by simp only [reqReadDevice, hf]))
  | rawWrite x _ _ => cases hb; exact congrArg Host.Outcome.next ((htake _).trans (by simp only [reqRawWrite, hf]))
  | claim x _ => cases hb; exact congrArg Host.Outcome.next ((htake _).trans (by simp only [reqClaim, hf]))
  | commit x _ => cases hb; exact congrArg Host.Outcome.next ((htake _).trans (by simp only [reqCommit, hf]))
  | abandon x => cases hb; exact congrArg Host.Outcome.next ((htake _).trans (by simp only [reqAbandon, hf]))
  | readNotices | setNoticeMask _ | setAttention _ _ | defineDevice _ _ _ _ _ _ _ _ | selectProfile _ _
  | setProfileSource _ | saveImage | restart => cases hb

/-! ### The requests that a claim bars (R97) -/

theorem ownerOf_eq (h : o = 1 ∨ o = 2 ∨ o = 3) :
    ownerOf o = some (if o = 1 then .h else if o = 2 then .l else .any) := by
  rcases h with rfl | rfl | rfl <;> rfl

theorem ownerOf_eq_none (h : ¬ (o = 1 ∨ o = 2 ∨ o = 3)) : ownerOf o = none := by
  simp only [not_or] at h
  rw [ownerOf, if_neg h.1, if_neg h.2.1, if_neg h.2.2]

/-- A request that changes a device's structure, or resets it, is turned away while the device is claimed. -/
theorem exec_of_claimed {r : Request} (ht : s.Takes p r tag) (hb : r.device? = some b) (hn : s.Names b d dv)
    (hc : (s.claim d).isSome = true) (howner : ∀ reg o base mask, r = .addEntry b reg o base mask → o = 1 ∨ o = 2 ∨ o = 3)
    (hk : r.kind ∈ [.addEntry, .removeEntry, .removeDevice, .deactivate, .resync, .resetDevice]) :
    exec (r.kind.command p) s = .next ((s.dequeue p).respond p tag .held .none) := by
  have hf : (s.dequeue p).findDevice b = some (d, dv) := State.findDevice_of_names (State.names_dequeue hn p)
  have hheld : (s.dequeue p).claimed d = true := by rwa [State.claimed_dequeue]
  have htake := State.takeRequest_of_takes ht
  cases r with
  | removeDevice x =>
    cases hb
    exact congrArg Host.Outcome.next ((htake _).trans (by simp only [reqRemoveDevice, hf, hheld, if_true]))
  | addEntry x reg o base mask =>
    cases hb
    have hown := ownerOf_eq (howner reg o base mask rfl)
    exact congrArg Host.Outcome.next ((htake _).trans (by simp only [reqAddEntry, hf, hown, hheld, if_true]))
  | removeEntry x _ =>
    cases hb
    exact congrArg Host.Outcome.next ((htake _).trans (by simp only [reqRemoveEntry, hf, hheld, if_true]))
  | deactivate x =>
    cases hb
    exact congrArg Host.Outcome.next ((htake _).trans (by simp only [reqDeactivate, hf, hheld, if_true]))
  | resync x _ =>
    cases hb
    exact congrArg Host.Outcome.next ((htake _).trans (by simp only [reqResync, hf, hheld, if_true]))
  | resetDevice x _ =>
    cases hb
    exact congrArg Host.Outcome.next ((htake _).trans (by simp only [reqResetDevice, hf, hheld, if_true]))
  | _ => simp [Request.kind] at hk

/-! ### ADD_ENTRY (R16) -/

theorem exec_addEntry_of_takes (h : s.Takes p (.addEntry b r o base mask) tag) :
    exec (.addEntry p) s = .next (reqAddEntry p tag b r o base mask (s.dequeue p)) :=
  congrArg Host.Outcome.next (State.takeRequest_of_takes h _)

theorem reqAddEntry_of_badOwner (hn : s.Names b d dv) (ho : ¬ (o = 1 ∨ o = 2 ∨ o = 3)) :
    reqAddEntry p tag b r o base mask s = s.respond p tag .badRequest .none := by
  simp only [reqAddEntry, State.findDevice_of_names hn, ownerOf_eq_none ho]

theorem reqAddEntry_of_duplicate (hn : s.Names b d dv) (ho : o = 1 ∨ o = 2 ∨ o = 3) (hc : s.claim d = none)
    (h : (∃ e ∈ dv.entries, e.register = r) ∨ r = dv.params.checkRegister) :
    reqAddEntry p tag b r o base mask s = s.respond p tag .duplicate .none := by
  rw [← findEntry_isSome] at h
  simp only [reqAddEntry, State.findDevice_of_names hn, ownerOf_eq ho, State.claimed, hc, Option.isSome_none,
    Bool.false_eq_true, if_false, if_pos h]

theorem reqAddEntry_of_noSpace (hn : s.Names b d dv) (ho : o = 1 ∨ o = 2 ∨ o = 3) (hc : s.claim d = none)
    (hnew : ∀ e ∈ dv.entries, e.register ≠ r) (hcheck : r ≠ dv.params.checkRegister)
    (h : 128 ≤ dv.entries.length ∨ 320 ≤ s.poolInUse) :
    reqAddEntry p tag b r o base mask s = s.respond p tag .noSpace .none := by
  have hspace : Config.entriesPerDevice ≤ dv.entries.length ∨ Config.poolSize ≤ s.poolInUse := h
  simp only [reqAddEntry, State.findDevice_of_names hn, ownerOf_eq ho, State.claimed, hc, findEntry_eq_none hnew,
    Option.isSome_none, Bool.false_eq_true, if_false, hcheck, or_self, if_pos hspace]

theorem reqAddEntry_of_room (hn : s.Names b d dv) (ho : o = 1 ∨ o = 2 ∨ o = 3) (hc : s.claim d = none)
    (hnew : ∀ e ∈ dv.entries, e.register ≠ r) (hcheck : r ≠ dv.params.checkRegister)
    (hlen : dv.entries.length < 128) (hpool : s.poolInUse < 320) :
    reqAddEntry p tag b r o base mask s =
      (s.setDevice d (Device.reexamine (s.markerGranted d)
        { dv with
          entries := insertEntry (Entry.added r (if o = 1 then .h else if o = 2 then .l else .any) base mask)
            dv.entries })).respond p tag .ok .none := by
  have hspace : ¬ (Config.entriesPerDevice ≤ dv.entries.length ∨ Config.poolSize ≤ s.poolInUse) := by
    simp only [Config.entriesPerDevice, Config.poolSize]
    omega
  simp only [reqAddEntry, State.findDevice_of_names hn, ownerOf_eq ho, State.claimed, hc, findEntry_eq_none hnew,
    Option.isSome_none, Bool.false_eq_true, if_false, hcheck, or_self, if_neg hspace, State.reexamine_setDevice]

/-! ### REMOVE_ENTRY (R17, R18) -/

theorem exec_removeEntry_of_takes (h : s.Takes p (.removeEntry b r) tag) :
    exec (.removeEntry p) s = .next (reqRemoveEntry p tag b r (s.dequeue p)) :=
  congrArg Host.Outcome.next (State.takeRequest_of_takes h _)

theorem reqRemoveEntry_of_noEntry (hn : s.Names b d dv) (hc : s.claim d = none) (h : ∀ e ∈ dv.entries, e.register ≠ r) :
    reqRemoveEntry p tag b r s = s.respond p tag .notFound .none := by
  simp [reqRemoveEntry, State.findDevice_of_names hn, State.claimed, hc, findEntry_eq_none h]

theorem reqRemoveEntry_of_inFlight {e : Entry} (hn : s.Names b d dv) (hc : s.claim d = none)
    (he : findEntry r dv.entries = some e) (h : e.isInFlight = true) :
    reqRemoveEntry p tag b r s = s.respond p tag .busy .none := by
  simp [reqRemoveEntry, State.findDevice_of_names hn, State.claimed, hc, he, h]

theorem reqRemoveEntry_of_entry {e : Entry} (hn : s.Names b d dv) (hc : s.claim d = none)
    (he : findEntry r dv.entries = some e) (h : e.isInFlight = false) :
    reqRemoveEntry p tag b r s = (s.removeEntry d dv e).respond p tag .ok .none := by
  simp [reqRemoveEntry, State.findDevice_of_names hn, State.claimed, hc, he, h]

theorem removeEntry_eq_filter (r : Register) (es : List Entry) :
    Machine.removeEntry r es = es.filter fun e => decide (e.register ≠ r) :=
  List.filter_congr fun e _ => by rw [Bool.eq_iff_iff]; simp

theorem State.removeEntry_eq {e : Entry} {after : Device} {u : State} (hd : s.device d = some dv)
    (ha : after = Device.reexamine (s.markerGranted d)
      { dv with entries := dv.entries.filter (fun x => decide (x.register ≠ e.register)) })
    (hu : u = { s with
      devices := s.devices.set d (some after)
      profiles := if e.mark = true then s.profiles.counting 1 else s.profiles
      ports := s.eachPort fun q =>
        (q.answer (toEntryWaits d e.register fun _ => (.aborted, .none))).settling d dv after }) :
    s.removeEntry d dv e = if e.mark = true then u.completionTest else u := by
  have hafter : ((s.answer (entryWaitsOn d e.register .aborted)).setDevice d after).device d = some after := by
    simp [State.device]
  have hsettle : after.Settled → (after.state = .diverged ↔ after.anyFailed = true) :=
    fun h => ha ▸ Device.diverged_reexamine_iff (ha ▸ h)
  have hremoved : State.answerSettled s d
      (((s.setDevice d { dv with entries := Machine.removeEntry e.register dv.entries }).answer
        (entryWaitsOn d e.register .aborted)).reexamine d) =
      { s with
        devices := s.devices.set d (some after)
        ports := s.eachPort fun q =>
          (q.answer (toEntryWaits d e.register fun _ => (.aborted, .none))).settling d dv after } := by
    rw [State.reexamine_answer_setDevice, removeEntry_eq_filter, ← ha, State.answerSettled_eq_settling hd hafter hsettle, State.answer_eq]
    rfl
  subst hu
  simp only [State.removeEntry, hremoved, State.addUnapplied_eq_counting]
  split <;> rfl

/-! ### SET_ENTRY_ATTR (R19) -/

theorem exec_setEntryAttr_of_takes (h : s.Takes p (.setEntryAttr b r o mask) tag) :
    exec (.setEntryAttr p) s = .next (reqSetEntryAttr p tag b r o mask (s.dequeue p)) :=
  congrArg Host.Outcome.next (State.takeRequest_of_takes h _)

theorem reqSetEntryAttr_of_badOwner (hn : s.Names b d dv) (ho : ¬ (o = 1 ∨ o = 2 ∨ o = 3)) :
    reqSetEntryAttr p tag b r o mask s = s.respond p tag .badRequest .none := by
  simp only [reqSetEntryAttr, State.findDevice_of_names hn, ownerOf_eq_none ho]

theorem reqSetEntryAttr_of_noEntry (hn : s.Names b d dv) (ho : o = 1 ∨ o = 2 ∨ o = 3) (h : ∀ e ∈ dv.entries, e.register ≠ r) :
    reqSetEntryAttr p tag b r o mask s = s.respond p tag .notFound .none := by
  simp only [reqSetEntryAttr, State.findDevice_of_names hn, ownerOf_eq ho, findEntry_eq_none h]

theorem reqSetEntryAttr_of_entry (hn : s.Names b d dv) (ho : o = 1 ∨ o = 2 ∨ o = 3) (h : ∃ e ∈ dv.entries, e.register = r) :
    reqSetEntryAttr p tag b r o mask s =
      (s.setDevice d (dv.updateEntry r fun e =>
        { e with owner := if o = 1 then .h else if o = 2 then .l else .any, verifyMask := mask })).respond p tag .ok .none := by
  obtain ⟨e, he⟩ := Option.isSome_iff_exists.mp ((findEntry_isSome r dv.entries).mpr h)
  simp only [reqSetEntryAttr, State.findDevice_of_names hn, ownerOf_eq ho, he]

end

/-! ### The statements -/

/-- Settles O15: the lookup of the device operand comes first in every request's rule, and the claim next. -/
theorem noDeviceIsNotFoundAndAClaimBars : Obligations.NoDeviceIsNotFoundAndAClaimBars := by
  refine ⟨fun s p r tag b ht hb hn => ?_, fun s p r tag b d dv ht hb hn hc howner hk => ?_⟩
  · rw [exec_of_no_device ht hb hn, State.respond_eq]
  · rw [exec_of_claimed ht hb hn hc howner hk, State.respond_eq]

/-- Settles O21: the refusals in order, and the insertion at the ordered place. -/
theorem addEntryInsertsInOrder : Obligations.AddEntryInsertsInOrder := by
  intro s p tag b r o base mask d dv ht hn
  have hn' := State.names_dequeue hn p
  rw [exec_addEntry_of_takes ht, ← State.claim_dequeue s p d, ← State.poolInUse_dequeue s p]
  refine ⟨fun ho => ?_, fun ho hc => ⟨fun hdup => ?_, fun hnew hcheck => ⟨fun hfull => ?_, fun hlen hpool => ?_⟩⟩⟩
  · rw [reqAddEntry_of_badOwner hn' ho, State.respond_eq]
  · rw [reqAddEntry_of_duplicate hn' ho hc hdup, State.respond_eq]
  · rw [reqAddEntry_of_noSpace hn' ho hc hnew hcheck hfull, State.respond_eq]
  · refine ⟨_, ?_, length_insertEntry (Entry.added r (if o = 1 then .h else if o = 2 then .l else .any) base mask) _,
      fun e => mem_insertEntry _ e _, ascending_insertEntry hnew⟩
    rw [reqAddEntry_of_room hn' ho hc hnew hcheck hlen hpool, State.respond_eq, State.markerGranted_dequeue,
      ← State.dequeue_devices s p]
    rfl

/-- Settles O22: the refusals, and `State.removeEntry_eq` on the state after the take. -/
theorem removeEntryAbortsItsWaits : Obligations.RemoveEntryAbortsItsWaits := by
  intro s p tag b r d dv ht hn hc
  have hn' := State.names_dequeue hn p
  have hc' := (State.claim_dequeue s p d).trans hc
  rw [exec_removeEntry_of_takes ht]
  refine ⟨fun hno => ?_, fun e he => ⟨fun hin => ?_, fun hin after u v ha hu hv => ?_⟩⟩
  · rw [reqRemoveEntry_of_noEntry hn' hc' hno, State.respond_eq]
  · rw [reqRemoveEntry_of_inFlight hn' hc' he hin, State.respond_eq]
  · obtain ⟨rfl, -⟩ := findEntry_mem he
    rw [← State.markerGranted_dequeue s p] at ha
    rw [← State.dequeue_devices s p, ← State.dequeue_profiles s p] at hu
    rw [reqRemoveEntry_of_entry hn' hc' he hin, State.removeEntry_eq hn'.2 ha hu, ← hv, State.respond_eq]

/-- Settles O23. -/
theorem setEntryAttrSetsOwnerAndMask : Obligations.SetEntryAttrSetsOwnerAndMask := by
  intro s p tag b r o mask d dv ht hn
  have hn' := State.names_dequeue hn p
  rw [exec_setEntryAttr_of_takes ht]
  refine ⟨fun ho => ?_, fun ho hno => ?_, fun ho hsome => ?_⟩
  · rw [reqSetEntryAttr_of_badOwner hn' ho, State.respond_eq]
  · rw [reqSetEntryAttr_of_noEntry hn' ho hno, State.respond_eq]
  · rw [reqSetEntryAttr_of_entry hn' ho hsome, ← State.dequeue_devices s p]
    rfl

end Sys2Proof.Machine

/-! The device requests ACTIVATE, DEACTIVATE, RESYNC and RESET_DEVICE, and the manual transfers (R47 to R50, R67 to R69,
R87). -/

namespace Sys2Proof.Machine

section
variable {s : State} {p : Port} {tag b r : Byte} {wait : Bool} {d : DevNum} {dv : Device}

/-! ### What a load's request does beside the load -/

theorem State.discardTxn_eq_map (s : State) (d : DevNum) (ks : List TxnKind) :
    s.discardTxn d ks =
      { s with txn := s.txn.map fun t => if t.device = d ∧ t.kind ∈ ks then { t with discard := true } else t } := by
  unfold State.discardTxn
  cases h : s.txn with
  | none =>
    simp only [Option.map_none]
    rw [← h]
  | some t =>
    simp only [Option.map_some]
    split
    · rfl
    · rw [← h]

theorem State.okOrSettleWait_eq (s : State) (k : ReqKind) :
    s.okOrSettleWait p tag k d wait =
      { s with
        ports := if wait then s.deferredTo p { tag := tag, kind := k, wait := .settle d none }
          else s.answered p tag .ok .none } := by
  unfold State.okOrSettleWait
  cases wait <;> rfl

/-- A request with the wait flag is refused where its port is full (R130). -/
theorem State.wait_and_capFull_iff : (wait && s.capFull p) = true ↔ wait = true ∧ s.full p := by
  rw [Bool.and_eq_true, State.capFull_iff]

/-! ### ACTIVATE (R47) -/

theorem exec_activate_of_takes (h : s.Takes p (.activate b wait) tag) :
    exec (.activate p) s = .next (reqActivate p tag b wait (s.dequeue p)) :=
  congrArg Host.Outcome.next (State.takeRequest_of_takes h _)

theorem reqActivate_of_wrongState (hn : s.Names b d dv) (hst : dv.state ≠ .dormant) :
    reqActivate p tag b wait s = s.respond p tag .wrongState .none := by
  simp only [reqActivate, State.findDevice_of_names hn, if_pos hst]

theorem reqActivate_of_full (hn : s.Names b d dv) (hst : dv.state = .dormant) (h : wait = true ∧ s.full p) :
    reqActivate p tag b wait s = s.respond p tag .busy .none := by
  simp only [reqActivate, State.findDevice_of_names hn, hst, ne_eq, not_true_eq_false, if_false,
    if_pos (State.wait_and_capFull_iff.mpr h)]

theorem reqActivate_of_dormant (hn : s.Names b d dv) (hst : dv.state = .dormant) (h : ¬ (wait = true ∧ s.full p)) :
    reqActivate p tag b wait s = (s.setDevice d dv.beginLoad).okOrSettleWait p tag .activate d wait := by
  simp only [reqActivate, State.findDevice_of_names hn, hst, ne_eq, not_true_eq_false, if_false,
    if_neg (State.wait_and_capFull_iff.not.mpr h), State.beginLoad_of_device hn.2]

/-! ### RESYNC (R50) -/

theorem exec_resync_of_takes (h : s.Takes p (.resync b wait) tag) :
    exec (.resync p) s = .next (reqResync p tag b wait (s.dequeue p)) :=
  congrArg Host.Outcome.next (State.takeRequest_of_takes h _)

theorem reqResync_of_fenced (hn : s.Names b d dv) (hc : s.claim d = none) (hst : dv.state = .fenced) :
    reqResync p tag b wait s = s.respond p tag .fenced .none := by
  simp [reqResync, State.findDevice_of_names hn, State.claimed, hc, hst]

theorem reqResync_of_wrongState (hn : s.Names b d dv) (hc : s.claim d = none) (hst : dv.state = .dormant ∨ dv.state = .loading) :
    reqResync p tag b wait s = s.respond p tag .wrongState .none := by
  rcases hst with hst | hst <;> simp [reqResync, State.findDevice_of_names hn, State.claimed, hc, hst]

theorem reqResync_of_full (hn : s.Names b d dv) (hc : s.claim d = none)
    (hst : dv.state = .running ∨ dv.state = .diverged ∨ dv.state = .suspect) (hw : wait = true) (h : s.full p) :
    reqResync p tag b wait s = s.respond p tag .busy .none := by
  have hfull := State.wait_and_capFull_iff.mpr ⟨hw, h⟩
  rcases hst with hst | hst | hst <;> simp [reqResync, State.findDevice_of_names hn, State.claimed, hc, hst, hfull]

theorem reqResync_of_room (hn : s.Names b d dv) (hc : s.claim d = none)
    (hst : dv.state = .running ∨ dv.state = .diverged ∨ dv.state = .suspect) (h : ¬ (wait = true ∧ s.full p)) :
    reqResync p tag b wait s =
      ((s.setDevice d dv.beginLoad).discardTxn d [.push, .probe]).okOrSettleWait p tag .resync d wait := by
  have hroom := eq_false_of_ne_true (State.wait_and_capFull_iff.not.mpr h)
  rcases hst with hst | hst | hst <;>
    simp [reqResync, State.findDevice_of_names hn, State.claimed, hc, hst, hroom, State.beginLoad_of_device hn.2]

/-! ### RESET_DEVICE (R87) -/

theorem exec_resetDevice_of_takes (h : s.Takes p (.resetDevice b wait) tag) :
    exec (.resetDevice p) s = .next (reqResetDevice p tag b wait (s.dequeue p)) :=
  congrArg Host.Outcome.next (State.takeRequest_of_takes h _)

theorem Device.resetLoad_eq (dv : Device) : dv.resetLoad = { dv.beginLoad with losses := 0 } := by
  obtain ⟨ps, st, ph, remaining, elapsed, due, losses, pr, es⟩ := dv
  cases st <;> cases due <;> rfl

theorem reqResetDevice_of_wrongState (hn : s.Names b d dv) (hc : s.claim d = none) (hf : dv.state ≠ .fenced)
    (hd : dv.state ≠ .diverged) : reqResetDevice p tag b wait s = s.respond p tag .wrongState .none := by
  simp [reqResetDevice, State.findDevice_of_names hn, State.claimed, hc, hf, hd]

theorem reqResetDevice_of_full (hn : s.Names b d dv) (hc : s.claim d = none)
    (hst : dv.state = .fenced ∨ dv.state = .diverged) (hw : wait = true) (h : s.full p) :
    reqResetDevice p tag b wait s = s.respond p tag .busy .none := by
  have hfull := State.wait_and_capFull_iff.mpr ⟨hw, h⟩
  rcases hst with hst | hst <;> simp [reqResetDevice, State.findDevice_of_names hn, State.claimed, hc, hst, hfull]

theorem reqResetDevice_of_room (hn : s.Names b d dv) (hc : s.claim d = none)
    (hst : dv.state = .fenced ∨ dv.state = .diverged) (h : ¬ (wait = true ∧ s.full p)) :
    reqResetDevice p tag b wait s =
      ((s.setDevice d dv.resetLoad).discardTxn d [.push, .probe]).okOrSettleWait p tag .resetDevice d wait := by
  have hroom := eq_false_of_ne_true (State.wait_and_capFull_iff.not.mpr h)
  rcases hst with hst | hst <;>
    simp [reqResetDevice, State.findDevice_of_names hn, State.claimed, hc, hst, hroom, State.resetLoad_of_device hn.2]

/-! ### DEACTIVATE (R48, R49) -/

theorem exec_deactivate_of_takes (h : s.Takes p (.deactivate b) tag) :
    exec (.deactivate p) s = .next (reqDeactivate p tag b (s.dequeue p)) :=
  congrArg Host.Outcome.next (State.takeRequest_of_takes h _)

theorem reqDeactivate_of_dormant (hn : s.Names b d dv) (hc : s.claim d = none) (hst : dv.state = .dormant) :
    reqDeactivate p tag b s = s.respond p tag .wrongState .none := by
  simp [reqDeactivate, State.findDevice_of_names hn, State.claimed, hc, hst]

theorem reqDeactivate_of_active (hn : s.Names b d dv) (hc : s.claim d = none) (hst : dv.state ≠ .dormant) :
    reqDeactivate p tag b s = (s.deactivate d).respond p tag .ok .none := by
  simp [reqDeactivate, State.findDevice_of_names hn, State.claimed, hc, hst]

theorem Device.markCount_deactivated (dv : Device) : dv.deactivated.markCount = dv.markCount := by
  rw [Device.markCount, Device.markCount, Device.deactivated, List.countP_map]
  rfl

/-- The hub as DEACTIVATE leaves it before the completion test. -/
def State.deactivatedAt (s : State) (d : DevNum) (dv : Device) : State :=
  { s with
    devices := s.devices.set d (some
      { dv.deactivated with entries := dv.deactivated.entries.map fun e => { e with mark := false } })
    txn := s.txn.map fun x =>
      if x.device = d ∧ (x.kind = .push ∨ x.kind = .marker ∨ x.kind = .probe) then { x with discard := true } else x
    profiles := s.profiles.counting dv.markCount
    ports := s.eachPort fun q =>
      (q.answer (toEntryWaitsOf d .aborted)).answer (toSettleWaits d fun _ => (.aborted, .none)) }

theorem State.deactivate_of_device (hd : s.device d = some dv) :
    s.deactivate d = if dv.markCount = 0 then s.deactivatedAt d dv else (s.deactivatedAt d dv).completionTest := by
  have hbefore : (((s.setDevice d dv.deactivated).discardTxn d [.push, .marker, .probe]).answer
      (entryWaitsOf d .aborted)).answer (settleWaitsOf d .aborted) =
      { s.deactivatedAt d dv with devices := s.devices.set d (some dv.deactivated), profiles := s.profiles } := by
    rw [State.discardTxn_eq_map, State.answer_eq, State.answer_eq, entryWaitsOf_eq, settleWaitsOf_eq, State.deactivatedAt]
    simp only [List.mem_cons, List.not_mem_nil, or_false]
    rfl
  simp only [State.deactivate, State.modDevice_of_some hd, hbefore]
  rw [State.clearMarks_of_device (dv := dv.deactivated) (by exact PerDevice.get_set_self _ _ _), Device.markCount_deactivated]
  simp only [State.setDevice, State.deactivatedAt, PerDevice.set_set]
  split
  next hzero =>
    rw [hzero, ProfileController.counting_zero, Device.map_clearMark_of_markCount (dv.markCount_deactivated.trans hzero)]
  next => rfl

/-! ### READ_DEVICE and RAW_WRITE (R67 to R69) -/

theorem exec_readDevice_of_takes (h : s.Takes p (.readDevice b r) tag) :
    exec (.readDevice p) s = .next (reqReadDevice p tag b r (s.dequeue p)) :=
  congrArg Host.Outcome.next (State.takeRequest_of_takes h _)

theorem exec_rawWrite_of_takes {v : Value} (h : s.Takes p (.rawWrite b r v) tag) :
    exec (.rawWrite p) s = .next (reqRawWrite p tag b r v (s.dequeue p)) :=
  congrArg Host.Outcome.next (State.takeRequest_of_takes h _)

theorem State.queueTransfer_eq (s : State) (p : Port) (k : ReqKind) (x : Transfer) :
    s.queueTransfer p k x =
      { s with
        ports := s.ports.set p
          { s.port p with
            manual := (s.port p).manual ++ [x]
            outstanding := (s.port p).outstanding ++ [⟨x.tag, k, .manual⟩] } } := by
  simp [State.queueTransfer, State.await, State.modPort, State.port]

theorem reqReadDevice_of_full (hn : s.Names b d dv) (h : s.full p) :
    reqReadDevice p tag b r s = s.respond p tag .busy .none := by
  simp only [reqReadDevice, State.findDevice_of_names hn, if_pos (State.capFull_iff.mpr h)]

theorem reqReadDevice_of_room (hn : s.Names b d dv) (h : ¬ s.full p) :
    reqReadDevice p tag b r s = s.queueTransfer p .readDevice ⟨.readDevice, tag, d, r⟩ := by
  simp only [reqReadDevice, State.findDevice_of_names hn, if_neg (State.capFull_iff.not.mpr h)]

theorem reqRawWrite_of_managed {v : Value} (hn : s.Names b d dv)
    (h : (∃ e ∈ dv.entries, e.register = r) ∨ r = dv.params.checkRegister) :
    reqRawWrite p tag b r v s = s.respond p tag .managed .none := by
  rw [← findEntry_isSome] at h
  simp only [reqRawWrite, State.findDevice_of_names hn, if_pos h]

theorem reqRawWrite_of_full {v : Value} (hn : s.Names b d dv) (hnew : ∀ e ∈ dv.entries, e.register ≠ r)
    (hcheck : r ≠ dv.params.checkRegister) (h : s.full p) :
    reqRawWrite p tag b r v s = s.respond p tag .busy .none := by
  simp [reqRawWrite, State.findDevice_of_names hn, findEntry_eq_none hnew, hcheck, State.capFull_iff.mpr h]

theorem reqRawWrite_of_room {v : Value} (hn : s.Names b d dv) (hnew : ∀ e ∈ dv.entries, e.register ≠ r)
    (hcheck : r ≠ dv.params.checkRegister) (h : ¬ s.full p) :
    reqRawWrite p tag b r v s = s.queueTransfer p .rawWrite ⟨.rawWrite v, tag, d, r⟩ := by
  have hroom := eq_false_of_ne_true (State.capFull_iff.not.mpr h)
  simp [reqRawWrite, State.findDevice_of_names hn, findEntry_eq_none hnew, hcheck, hroom]

theorem State.full_dequeue (s : State) (p q : Port) : (s.dequeue p).full q ↔ s.full q := by
  rw [State.full, State.dequeue_outstanding]

end

/-! ### The statements -/

/-- Settles O30: each request by the device's state, and then by the room for a wait. -/
theorem activateResyncAndResetBeginALoad : Obligations.ActivateResyncAndResetBeginALoad := by
  intro s p tag b wait d dv hn
  have hn' := State.names_dequeue hn p
  rw [← State.claim_dequeue s p d, ← State.full_dequeue s p p, ← State.dequeue_devices s p, ← State.dequeue_txn s p]
  refine ⟨fun ht => ⟨fun hst => ?_, fun hst hw h => ?_, fun hst h => ?_⟩,
    fun ht hc => ⟨fun hst => ?_, fun hst => ?_, fun hst => ⟨fun hw h => ?_, fun h => ?_⟩⟩,
    fun ht hc => ⟨fun hf hd => ?_, fun hst => ⟨fun hw h => ?_, fun h => ?_⟩⟩⟩
  · rw [exec_activate_of_takes ht, reqActivate_of_wrongState hn' hst, State.respond_eq]
  · rw [exec_activate_of_takes ht, reqActivate_of_full hn' hst ⟨hw, h⟩, State.respond_eq]
  · rw [exec_activate_of_takes ht, reqActivate_of_dormant hn' hst h, State.okOrSettleWait_eq]
    rfl
  · rw [exec_resync_of_takes ht, reqResync_of_fenced hn' hc hst, State.respond_eq]
  · rw [exec_resync_of_takes ht, reqResync_of_wrongState hn' hc hst, State.respond_eq]
  · rw [exec_resync_of_takes ht, reqResync_of_full hn' hc hst hw h, State.respond_eq]
  · rw [exec_resync_of_takes ht, reqResync_of_room hn' hc hst h, State.okOrSettleWait_eq, State.discardTxn_eq_map]
    simp only [List.mem_cons, List.not_mem_nil, or_false]
    rfl
  · rw [exec_resetDevice_of_takes ht, reqResetDevice_of_wrongState hn' hc hf hd, State.respond_eq]
  · rw [exec_resetDevice_of_takes ht, reqResetDevice_of_full hn' hc hst hw h, State.respond_eq]
  · rw [exec_resetDevice_of_takes ht, reqResetDevice_of_room hn' hc hst h, State.okOrSettleWait_eq,
      State.discardTxn_eq_map, ← Device.resetLoad_eq]
    simp only [List.mem_cons, List.not_mem_nil, or_false]
    rfl

/-- Settles O31: `State.deactivate_of_device` on the state after the take. -/
theorem deactivateEndsManagement : Obligations.DeactivateEndsManagement := by
  intro s p tag b d dv ht hn hc
  have hn' := State.names_dequeue hn p
  have hc' := (State.claim_dequeue s p d).trans hc
  rw [exec_deactivate_of_takes ht]
  refine ⟨fun hst => ?_, fun hst marks u v hm hu hv => ?_⟩
  · rw [reqDeactivate_of_dormant hn' hc' hst, State.respond_eq]
  · have hentries : dv.deactivated.entries.map (fun e => { e with mark := false }) =
        dv.entries.map fun e => { e with state := .pending, applied := none, attempts := 0, mark := false } :=
      List.map_map
    have hu' : u = (s.dequeue p).deactivatedAt d dv := by
      rw [hu, hm, ← Device.markCount_eq, State.deactivatedAt, hentries, State.dequeue_devices, State.dequeue_txn,
        State.dequeue_profiles]
      rfl
    rw [reqDeactivate_of_active hn' hc' hst, State.deactivate_of_device hn'.2, State.respond_eq, ← hu',
      Device.markCount_eq, ← hm, ← hv]

/-- Settles O32. -/
theorem manualRequestsJoinTheQueue : Obligations.ManualRequestsJoinTheQueue := by
  intro s p tag b r d dv hn
  have hn' := State.names_dequeue hn p
  rw [← State.full_dequeue s p p, ← State.dequeue_manual s p p, ← State.dequeue_outstanding s p p]
  refine ⟨fun ht => ⟨fun h => ?_, fun h => ?_⟩, fun v ht => ⟨fun hm => ?_, fun hnew hcheck => ⟨fun h => ?_, fun h => ?_⟩⟩⟩
  · rw [exec_readDevice_of_takes ht, reqReadDevice_of_full hn' h, State.respond_eq]
  · rw [exec_readDevice_of_takes ht, reqReadDevice_of_room hn' h, State.queueTransfer_eq]
  · rw [exec_rawWrite_of_takes ht, reqRawWrite_of_managed hn' hm, State.respond_eq]
  · rw [exec_rawWrite_of_takes ht, reqRawWrite_of_full hn' hnew hcheck h, State.respond_eq]
  · rw [exec_rawWrite_of_takes ht, reqRawWrite_of_room hn' hnew hcheck h, State.queueTransfer_eq]

end Sys2Proof.Machine

/-! Claims: COMMIT, and the end of an expired claim (R99 to R101, R103). -/

namespace Sys2Proof.Machine

section
variable {s v : State} {p : Port} {tag b : Byte} {wait : Bool} {d : DevNum} {dv after : Device} {count : Nat}

/-! ### What a commit writes, and its answer (R100, R101) -/

theorem stagedInto_eq (x : Option SlotContent) (y : Option Value) :
    stagedInto x y = match x with
      | none => y
      | some .clear => none
      | some (.value v) => some v := by
  rcases x with _ | _ | _ <;> rfl

theorem Device.commitCount_eq (dv : Device) :
    dv.commitCount =
      (dv.entries.filter fun e => decide (e.commitStaged.desired dv.profile ≠ e.desired dv.profile)).length :=
  List.countP_eq_length_filter

theorem commitAnswer_of_noWait : commitAnswer false count after = some (.ok, .count count) := rfl

theorem commitAnswer_of_dormant (h : after.state = .dormant) : commitAnswer true count after = some (.notActive, .none) := by
  simp [commitAnswer, h]

theorem commitAnswer_of_fenced (h : after.state = .fenced) : commitAnswer true count after = some (.fenced, .none) := by
  simp [commitAnswer, h]

theorem commitAnswer_of_running (hs : after.settled = true) (h : after.state = .running) :
    commitAnswer true count after = some (.ok, .count count) := by
  simp [commitAnswer, h, hs]

theorem commitAnswer_of_diverged (hs : after.settled = true) (h : after.state = .diverged) :
    commitAnswer true count after = some (.failed, .count after.failedCount) := by
  simp [commitAnswer, h, hs]

theorem commitAnswer_of_unsettled (hd : after.state ≠ .dormant) (hf : after.state ≠ .fenced) (hs : after.settled = false) :
    commitAnswer true count after = none := by
  simp [commitAnswer, hd, hf, hs]

/-! ### The holder's COMMIT -/

theorem reqCommit_of_answer {a : OutcomeCode × Payload} (hn : s.Names b d dv) (hh : s.holds p d = true)
    (hv : v = s.claimEnded d dv Entry.commitStaged) (hd : v.device d = some after)
    (ha : commitAnswer wait dv.commitCount after = some a) :
    reqCommit p tag b wait s = v.respond p tag a.1 a.2 := by
  simp only [reqCommit, State.findDevice_of_names hn, hh, if_true, State.endClaim_eq_claimEnded hn.2, ← hv, hd,
    Option.getD_some, ha]

theorem reqCommit_of_wait (hn : s.Names b d dv) (hh : s.holds p d = true)
    (hv : v = s.claimEnded d dv Entry.commitStaged) (hd : v.device d = some after)
    (ha : commitAnswer wait dv.commitCount after = none) :
    reqCommit p tag b wait s =
      if s.capFull p = true then s.respond p tag .busy .none
      else v.await p ⟨tag, .commit, .settle d (some dv.commitCount)⟩ := by
  simp only [reqCommit, State.findDevice_of_names hn, hh, if_true, State.endClaim_eq_claimEnded hn.2, ← hv, hd,
    Option.getD_some, ha]

end

/-- Settles O34: the claim's end, and then the answer by the device's state as the commit leaves it. -/
theorem commitAppliesTheStagedValues : Obligations.CommitAppliesTheStagedValues := by
  intro s p tag b wait d dv after c put eff count v ht hn hc hh hput heff hcount hafter hv
  obtain rfl : put = Entry.commitStaged := funext fun x => by
    rw [hput, Entry.commitStaged, stagedInto_eq, stagedInto_eq, stagedInto_eq]
    rfl
  rw [← Device.commitCount_eq] at hcount
  have hn' := State.names_dequeue hn p
  have hholds : (s.dequeue p).holds p d = true := by
    rw [State.holds_dequeue]
    exact State.holds_iff.mpr ⟨c, hc, hh⟩
  have hdevices : v.devices = s.devices.set d (some after) := by
    rw [hv, State.devices_claimEnded, State.dequeue_devices, State.markerGranted_dequeue, State.profileAfterClaim,
      State.deferred_dequeue, State.dequeue_profiles, hafter, heff]
    rfl
  have hd : v.device d = some after := by rw [State.device, hdevices, PerDevice.get_set_self]
  have hanswer {a : OutcomeCode × Payload} (ha : commitAnswer wait count after = some a) :
      exec (.commit p) s = .next { v with ports := v.answered p tag a.1 a.2 } := by
    rw [exec_commit_of_takes ht, reqCommit_of_answer hn' hholds hv hd (hcount ▸ ha), State.respond_eq]
  refine ⟨hdevices, ?_, fun hdef => ?_, ?_, fun hw hfull h1 h2 h3 => ?_, fun hw => ?_, fun hw h => ?_, fun hw h => ?_,
    fun hw hs h => ?_, fun hw hs h => ?_, fun hw hroom h1 h2 h3 => ?_⟩
  · rw [hv, State.claims_claimEnded, State.dequeue_claims]
  · have hdef' := (State.deferred_dequeue s p d).trans hdef
    rw [hv, State.profiles_claimEnded_of_not_deferred dv _ hdef', State.ports_claimEnded_of_not_deferred dv _ hdef']
    exact ⟨State.dequeue_profiles s p, rfl⟩
  · rw [hv, State.deferred_claimEnded]
  · subst hw
    rw [exec_commit_of_takes ht, reqCommit_of_wait hn' hholds hv hd (commitAnswer_of_unsettled h1 h2 h3), if_pos, State.respond_eq]
    rw [State.capFull_dequeue]
    exact State.capFull_iff.mpr hfull
  · subst hw
    exact hanswer commitAnswer_of_noWait
  · subst hw
    exact hanswer (commitAnswer_of_dormant h)
  · subst hw
    exact hanswer (commitAnswer_of_fenced h)
  · subst hw
    exact hanswer (commitAnswer_of_running hs h)
  · subst hw
    exact hanswer (commitAnswer_of_diverged hs h)
  · subst hw
    rw [exec_commit_of_takes ht, reqCommit_of_wait hn' hholds hv hd (commitAnswer_of_unsettled h1 h2 h3), if_neg,
      State.await_eq, hcount]
    rw [State.capFull_dequeue, State.capFull_iff]
    exact hroom

/-! ### An expired lease (R103) -/

theorem State.late_claimEnded (s : State) (d : DevNum) (dv : Device) (put : Entry → Entry) :
    (s.claimEnded d dv put).late = s.late := by
  unfold State.claimEnded
  split
  · rw [State.completionTest_late]
  · rfl

/-- The hub as an expiry leaves it before the end of the claim: the late mark set, and the holder told. -/
def State.expiryTold (s : State) (d : DevNum) (p : Port) : State :=
  { s with
    late := s.late.set d ((s.late.get d).set p .expired)
    ports := s.ports.set p ((s.port p).post (.claimExpired d)) }

theorem State.expireClaim_of_claim {s : State} {d : DevNum} {dv : Device} {c : Claim} (hd : s.device d = some dv)
    (hc : s.claim d = some c) :
    s.expireClaim d = (s.expiryTold d c.holder).claimEnded d dv Entry.clearStaged := by
  have htold : (s.setLate d c.holder .expired).postTo c.holder (.claimExpired d) = s.expiryTold d c.holder := rfl
  have hd' : (s.expiryTold d c.holder).device d = some dv := hd
  simp only [State.expireClaim, hc, htold]
  exact State.endClaim_eq_claimEnded hd' _

/-- Settles O53: the expiry's late mark and notice, and then `State.claimEnded`. -/
theorem expiredClaimsEnd : Obligations.ExpiredClaimsEnd := by
  intro s v d dv c put eff hr hd hc hput heff hv
  obtain rfl : put = Entry.clearStaged := funext hput
  replace hv : v = (s.expiryTold d c.holder).claimEnded d dv Entry.clearStaged := hv
  refine ⟨?_, ?_, ?_, ?_, ?_, fun hdef => ?_⟩
  · rw [exec_claimExpired_of_ready hr, State.expireClaim_of_claim hd hc, hv]
  · rw [hv, State.devices_claimEnded, heff]
    rfl
  · rw [hv, State.claims_claimEnded]
    rfl
  · rw [hv, State.late_claimEnded]
    rfl
  · rw [hv, State.deferred_claimEnded]
  · have hdef' : (s.expiryTold d c.holder).deferred d = false := hdef
    rw [hv, State.port, State.port, State.port, State.profiles_claimEnded_of_not_deferred dv _ hdef',
      State.ports_claimEnded_of_not_deferred dv _ hdef']
    refine ⟨rfl, PerPort.get_set_other _ _ _, PerPort.get_set_self _ _ _, fun e _ => Entry.change_of_desired_eq ?_⟩
    rw [heff, hdef]
    rfl

end Sys2Proof.Machine

/-! Profiles: SELECT_PROFILE, SET_PROFILE_SOURCE, the completion test and the debounced lines (R111 to R122). -/

namespace Sys2Proof.Machine

/-! ### The completion test (R121, R122) -/

theorem State.anyMark_iff {s : State} :
    s.anyMark = true ↔ ∃ d dv, s.device d = some dv ∧ ∃ e ∈ dv.entries, e.mark = true := by
  rw [State.anyMark, anyDevice_iff]
  refine exists_congr fun d => ?_
  cases s.device d <;> simp

theorem Transition.anyDeferred_iff {tr : Transition} : tr.anyDeferred = true ↔ ∃ d, tr.deferred.get d = true := anyDevice_iff

theorem State.anyMark_eq_false {s : State} (h : ∀ d dv, s.device d = some dv → ∀ e ∈ dv.entries, e.mark = false) :
    s.anyMark = false := by
  refine eq_false_of_ne_true fun hmark => ?_
  obtain ⟨d, dv, hd, e, he, hme⟩ := State.anyMark_iff.mp hmark
  exact absurd hme (by simp [h d dv hd e he])

theorem Transition.anyDeferred_eq_false {tr : Transition} (h : ∀ d, tr.deferred.get d = false) : tr.anyDeferred = false := by
  refine eq_false_of_ne_true fun hdef => ?_
  obtain ⟨d, hd⟩ := Transition.anyDeferred_iff.mp hdef
  exact absurd hd (by simp [h d])

/-- The response to each waiter of a transition. -/
theorem toWaiters_responses (c : OutcomeCode) (pl : Payload) :
    (fun w : Outstanding => if w.wait = .transition then some (⟨w.tag, c, pl⟩ : Response) else none) =
      fun w => (toWaiters (c, pl) w).map fun a => ⟨w.tag, a.1, a.2⟩ := by
  funext w
  rw [toWaiters]
  split <;> rfl

/-- A transition stays in flight while an entry is marked or a device deferred. -/
theorem State.staysInFlight_iff {s : State} {tr : Transition} (h : s.profiles.transition = some tr) :
    s.staysInFlight = true ↔ s.anyMark = true ∨ tr.anyDeferred = true := by
  unfold State.staysInFlight
  cases hm : s.anyMark with
  | true => simp [State.completionTest_of_marked hm, h]
  | false =>
    cases hd : tr.anyDeferred with
    | true => simp [State.completionTest_of_deferred h hd, h]
    | false => simp [State.completionTest_settles h hm hd]

theorem State.completionTest_of_stays {s : State} {tr : Transition} (h : s.profiles.transition = some tr)
    (hs : s.anyMark = true ∨ tr.anyDeferred = true) : s.completionTest = s :=
  hs.elim State.completionTest_of_marked (State.completionTest_of_deferred h)

section
variable {s v : State} {p : Port} {tag b : Byte} {wait : Bool} {P : Profile}

/-! ### SELECT_PROFILE (R113, R115) -/

theorem exec_selectProfile_of_takes (h : s.Takes p (.selectProfile b wait) tag) :
    exec (.selectProfile p) s = .next (reqSelectProfile p tag b wait (s.dequeue p)) :=
  congrArg Host.Outcome.next (State.takeRequest_of_takes h _)

theorem reqSelectProfile_of_lines (h : s.profiles.source = .lines) :
    reqSelectProfile p tag b wait s = s.respond p tag .notPermitted .none := if_pos h

theorem profileOf_eq_none (h : 4 ≤ b.toNat) : profileOf b = none := dif_neg (Nat.not_lt.mpr h)

theorem profileOf_of_toNat (h : b.toNat = P.val) : profileOf b = some P := by
  have hlt : b.toNat < 4 := h ▸ P.isLt
  rw [profileOf, dif_pos hlt]
  exact congrArg some (Fin.ext h)

theorem reqSelectProfile_of_none (h : s.profiles.source = .requests) (hb : profileOf b = none) :
    reqSelectProfile p tag b wait s = s.respond p tag .badRequest .none := by
  simp only [reqSelectProfile, h, reduceCtorEq, if_false, hb]

theorem reqSelectProfile_of_profile (h : s.profiles.source = .requests) (hb : b.toNat = P.val) :
    reqSelectProfile p tag b wait s =
      if P = s.profiles.target then s.selectSame p tag wait else s.selectOther p tag P wait := by
  simp only [reqSelectProfile, h, reduceCtorEq, if_false, profileOf_of_toNat hb]

theorem State.isWaiter_iff : s.isWaiter p = true ↔ ∃ o ∈ (s.port p).outstanding, o.wait = .transition := by
  simp [State.isWaiter]

theorem State.selectSame_of_no_wait (h : wait = false ∨ s.profiles.transition = none) :
    s.selectSame p tag wait = s.respond p tag .ok .none := by
  have hoff : ¬ (wait && s.profiles.transition.isSome) = true := by
    rcases h with h | h <;> simp [h]
  simp only [State.selectSame, if_neg hoff]

theorem State.selectSame_of_wait (hw : wait = true) (ht : s.profiles.transition.isSome = true) :
    s.selectSame p tag wait =
      if s.full p ∨ (∃ o ∈ (s.port p).outstanding, o.wait = .transition) then s.respond p tag .busy .none
      else s.await p ⟨tag, .selectProfile, .transition⟩ := by
  simp only [State.selectSame, hw, ht, Bool.and_self, if_true, ← State.capFull_iff, ← State.isWaiter_iff]
  cases s.capFull p <;> simp

/-! ### A switch's transition (R116, R117) -/

/-- The record of the transition that a switch to P begins. -/
def State.newTransition (s : State) (P : Profile) : Transition :=
  { target := P
    unapplied := (devNums.map fun d => match s.device d with
      | some dv =>
        if (s.claim d).isSome = true ∨ dv.state ≠ .fenced then 0
        else (dv.entries.filter fun e => decide (e.desired P ≠ e.desired dv.profile)).length
      | none => 0).sum
    deferred := PerDevice.ofFn fun d => match s.device d with
      | some dv => (s.claim d).isSome && decide (dv.profile ≠ P)
      | none => false }

theorem State.profiles_switched (s : State) (P : Profile) :
    (s.switched P).profiles = { s.profiles with target := P, transition := some (s.newTransition P) } := rfl

theorem State.newTransition_deferred_iff {d : DevNum} :
    (s.newTransition P).deferred.get d = true ↔
      ∃ dv, s.device d = some dv ∧ (s.claim d).isSome = true ∧ dv.profile ≠ P := by
  rw [State.newTransition, PerDevice.get_ofFn]
  cases s.device d <;> simp

/-- A switch changes the devices, the ports and the profile controller. -/
theorem State.switched_eq (s : State) (P : Profile) :
    s.switched P =
      { s with
        devices := (s.switched P).devices, ports := (s.switched P).ports, profiles := (s.switched P).profiles } := rfl

/-- The waiters of a transition in flight are answered SUPERSEDED as a switch begins. -/
theorem State.port_switched_of_transition (h : s.profiles.transition.isSome = true) (q : Port) :
    (s.switched P).port q = (s.port q).answer (toWaiters (.superseded, .none)) := by
  rw [State.port, State.switched, if_pos h]
  cases q <;> rfl

theorem State.answered_switched (s : State) (P : Profile) : s.Answered (s.switched P) := by
  rw [← State.switchTo_eq_switched]
  exact s.answered_switchTo P

theorem State.notices_switched (s : State) (P : Profile) (q : Port) :
    ((s.switched P).port q).notices = (s.port q).notices ∧ ((s.switched P).port q).mask = (s.port q).mask := by
  cases h : s.profiles.transition.isSome with
  | true =>
    rw [State.port_switched_of_transition h]
    exact ⟨rfl, rfl⟩
  | false => exact ⟨by simp [State.switched, State.port, h], by simp [State.switched, State.port, h]⟩

theorem State.completionTest_switched_profiles {u : State} (h : u.profiles = (s.switched P).profiles) :
    u.completionTest.profiles =
      { s.profiles with target := P, transition := u.completionTest.profiles.transition } := by
  rcases State.completionTest_transition u with hk | hk <;> rw [hk, h, State.profiles_switched]

/-! ### A SELECT_PROFILE of another profile (R113, R116, R122) -/

/-- The hub as a SELECT_PROFILE that switches leaves it. -/
def State.profileSelected (p : Port) (tag : Byte) (P : Profile) (wait : Bool) (s : State) : State :=
  if wait then ((s.switched P).await p ⟨tag, .selectProfile, .transition⟩).completionTest
  else (s.switched P).completionTest.respond p tag .ok .none

theorem State.staysInFlight_switched_iff :
    (s.switched P).staysInFlight = true ↔ (s.switched P).anyMark = true ∨ (s.newTransition P).anyDeferred = true :=
  State.staysInFlight_iff (s := s.switched P) rfl

theorem State.selectOther_of_full (hw : wait = true) (hfull : s.full p) (hstays : (s.switched P).staysInFlight = true) :
    s.selectOther p tag P wait = s.respond p tag .busy .none := by
  simp [State.selectOther, hw, State.switchTo_eq_switched, hstays, State.capFull_iff.mpr hfull]

theorem State.selectOther_of_room (h : ¬ (wait = true ∧ s.full p ∧ (s.switched P).staysInFlight = true)) :
    s.selectOther p tag P wait = s.profileSelected p tag P wait := by
  cases wait with
  | false => simp only [State.selectOther, State.profileSelected, State.switchTo_eq_switched, Bool.false_eq_true, if_false]
  | true =>
    have hroom : ¬ ((s.switched P).staysInFlight && s.capFull p) = true := by
      rw [Bool.and_eq_true, State.capFull_iff]
      exact fun hf => h ⟨rfl, hf.2, hf.1⟩
    simp only [State.selectOther, State.profileSelected, State.switchTo_eq_switched, if_true, if_neg hroom]

theorem State.profileSelected_eq :
    s.profileSelected p tag P wait =
      { s with
        devices := (s.profileSelected p tag P wait).devices, ports := (s.profileSelected p tag P wait).ports
        profiles := (s.profileSelected p tag P wait).profiles } := by
  unfold State.profileSelected
  split
  · rw [State.completionTest_eq]
    rfl
  · rw [State.respond_eq, State.completionTest_eq]
    rfl

theorem State.profiles_profileSelected :
    (s.profileSelected p tag P wait).profiles =
      { s.profiles with target := P, transition := (s.profileSelected p tag P wait).profiles.transition } := by
  unfold State.profileSelected
  split
  · exact State.completionTest_switched_profiles rfl
  · exact State.completionTest_switched_profiles (u := s.switched P) rfl

theorem State.device_profileSelected (d : DevNum) : (s.profileSelected p tag P wait).device d = (s.switched P).device d := by
  unfold State.profileSelected
  split
  · rw [State.device, State.completionTest_devices]
    rfl
  · rw [State.respond_eq, State.device, State.completionTest_devices]
    rfl

theorem State.responses_switched_prefix (q : Port) :
    ((s.switched P).port q).responses <+: ((s.profileSelected p tag P wait).port q).responses := by
  unfold State.profileSelected
  split
  · have hsame : (((s.switched P).await p ⟨tag, .selectProfile, .transition⟩).port q).responses =
        ((s.switched P).port q).responses := by
      simp only [State.await, State.port, State.modPort_ports, PerPort.get_set]
      split
      next hq => rw [hq]
      next => rfl
    exact hsame ▸ (State.answered_completionTest _ q).responses
  · refine (State.answered_completionTest (s.switched P) q).responses.trans ?_
    simp only [State.respond, State.port, State.modPort_ports, PerPort.get_set]
    split
    next hq =>
      rw [hq]
      exact List.prefix_append _ _
    next => exact List.prefix_rfl

theorem State.getLast?_profileSelected_of_no_wait :
    ((s.profileSelected p tag P false).port p).responses.getLast? = some ⟨tag, .ok, .none⟩ := by
  simp [State.profileSelected, State.respond, State.port, State.modPort]

/-- A switch that stays in flight keeps its record, and leaves the request that waits on it outstanding. -/
theorem State.profileSelected_of_stays (h : (s.switched P).staysInFlight = true) :
    (s.profileSelected p tag P wait).profiles = (s.switched P).profiles ∧
      (wait = true → ((s.profileSelected p tag P wait).port p).outstanding.getLast? = some ⟨tag, .selectProfile, .transition⟩) := by
  rw [State.staysInFlight_switched_iff] at h
  have hkept : ∀ u : State, u.devices = (s.switched P).devices → u.profiles = (s.switched P).profiles → u.completionTest = u :=
    fun u hu hp => State.completionTest_of_stays (tr := s.newTransition P) (by rw [hp]; rfl)
      (h.imp_left fun hm => by simpa only [State.anyMark, State.device, hu] using hm)
  cases wait with
  | false => exact ⟨by rw [State.profileSelected, if_neg Bool.false_ne_true, hkept _ rfl rfl, State.respond_eq], nofun⟩
  | true =>
    rw [State.profileSelected, if_pos rfl, hkept ((s.switched P).await p _) rfl rfl]
    exact ⟨rfl, fun _ => by simp [State.await, State.port, State.modPort]⟩

theorem PortSide.post_eq (q : PortSide) (n : Notice) :
    q.post n = { q with notices := (q.post n).notices, lost := (q.post n).lost } := by
  unfold PortSide.post
  repeat' split
  all_goals rfl

theorem State.port_of_eachPort {u : State} {f : PortSide → PortSide} (h : v.ports = u.eachPort f) (q : Port) :
    v.port q = f (u.port q) := by
  rw [State.port, h]
  cases q <;> rfl

theorem PortSide.notices_settledTransition (P : Profile) (n : Nat) (q : PortSide) :
    (q.settledTransition P n).notices = (q.post (.profileSettled P n)).notices := rfl

/-- The request that joined the waiters last is answered last as the transition settles (R121). -/
theorem PortSide.getLast?_settledTransition (P : Profile) (n : Nat) (q : PortSide) {o : Outstanding} (h : o.wait = .transition) :
    (PortSide.settledTransition P n { q with outstanding := q.outstanding ++ [o] }).responses.getLast? =
      some (if n = 0 then ⟨o.tag, .ok, .none⟩ else ⟨o.tag, .failed, .unapplied n⟩) := by
  rw [PortSide.settledTransition, PortSide.post_eq]
  simp only [PortSide.answer, List.filterMap_append, List.filterMap_cons, List.filterMap_nil, toWaiters, h, if_true,
    Option.map_some, ← List.append_assoc, List.getLast?_concat]
  split <;> rfl

/-- A switch that nothing holds up settles at once, for the request that waits on it, too. -/
theorem State.profileSelected_of_settles (h : (s.switched P).staysInFlight = false) :
    (s.profileSelected p tag P wait).profiles.transition = none ∧
      (wait = true → ((s.profileSelected p tag P wait).port p).responses.getLast? =
        some (if (s.newTransition P).unapplied = 0 then ⟨tag, .ok, .none⟩
          else ⟨tag, .failed, .unapplied (s.newTransition P).unapplied⟩)) ∧
      ∀ q, ((s.profileSelected p tag P wait).port q).notices =
        (((s.switched P).port q).post (.profileSettled P (s.newTransition P).unapplied)).notices := by
  rw [← Bool.not_eq_true, State.staysInFlight_switched_iff, not_or, Bool.not_eq_true, Bool.not_eq_true] at h
  obtain ⟨hmark, hdef⟩ := h
  have hsettle : ∀ u : State, u.devices = (s.switched P).devices → u.profiles = (s.switched P).profiles →
      u.completionTest.profiles.transition = none ∧
        ∀ q, u.completionTest.port q = (u.port q).settledTransition P (s.newTransition P).unapplied := by
    intro u hu hp
    have htr : u.profiles.transition = some (s.newTransition P) := by
      rw [hp]
      rfl
    have hm : u.anyMark = false := by simpa only [State.anyMark, State.device, hu] using hmark
    rw [State.completionTest_settles htr hm hdef]
    exact ⟨rfl, State.port_of_eachPort rfl⟩
  cases wait with
  | false =>
    obtain ⟨hnone, hport⟩ := hsettle (s.switched P) rfl rfl
    simp only [State.profileSelected, Bool.false_eq_true, if_false]
    refine ⟨hnone, nofun, fun q => ?_⟩
    rw [← PortSide.notices_settledTransition, ← hport, State.respond, State.port, State.modPort_ports, PerPort.get_set]
    split
    next hq =>
      rw [hq]
      rfl
    next => rfl
  | true =>
    obtain ⟨hnone, hport⟩ := hsettle ((s.switched P).await p ⟨tag, .selectProfile, .transition⟩) rfl rfl
    have hawait : ∀ q, ((s.switched P).await p ⟨tag, .selectProfile, .transition⟩).port q =
        { (s.switched P).port q with
          outstanding := ((s.switched P).port q).outstanding ++ if q = p then [⟨tag, .selectProfile, .transition⟩] else [] } := by
      intro q
      simp only [State.await, State.port, State.modPort_ports, PerPort.get_set]
      split
      next hq => rw [hq]
      next => rw [List.append_nil]
    simp only [State.profileSelected, if_true]
    refine ⟨hnone, fun _ => ?_, fun q => ?_⟩
    · rw [hport, hawait, if_pos rfl]
      exact PortSide.getLast?_settledTransition P _ _ rfl
    · rw [hport, hawait, PortSide.notices_settledTransition]
      unfold PortSide.post
      repeat' split
      all_goals rfl

/-- A notice that the mask admits, on a list with room, is in the list once it is posted. -/
theorem PortSide.mem_post {q : PortSide} {n : Notice} (ha : maskAdmits q.mask n.kind = true) (hlen : q.notices.length < 16) :
    n ∈ (q.post n).notices := by
  by_cases hm : ∃ m ∈ q.notices, m.kind = n.kind ∧ m.device = n.device
  · rw [PortSide.post_of_coalesces ha hm]
    obtain ⟨m, hmem, hkey⟩ := hm
    exact List.mem_map.mpr ⟨m, hmem, if_pos hkey⟩
  · push Not at hm
    rw [PortSide.post_of_new ha fun m hmem hkey => hm m hmem hkey.1 hkey.2, if_pos hlen]
    exact List.mem_append_right _ (List.mem_singleton.mpr rfl)

/-! ### SET_PROFILE_SOURCE (R114) -/

theorem exec_setProfileSource_of_takes (h : s.Takes p (.setProfileSource b) tag) :
    exec (.setProfileSource p) s = .next (reqSetProfileSource p tag b (s.dequeue p)) :=
  congrArg Host.Outcome.next (State.takeRequest_of_takes h _)

theorem sourceOf_of_le (h : b.toNat ≤ 1) : sourceOf b = some (if b = 0 then .requests else .lines) := by
  rcases Nat.le_one_iff_eq_zero_or_eq_one.mp h with h | h
  · obtain rfl : b = 0 := BitVec.eq_of_toNat_eq h
    rfl
  · obtain rfl : b = 1 := BitVec.eq_of_toNat_eq h
    rfl

theorem sourceOf_eq_none (h : 1 < b.toNat) : sourceOf b = none := by
  have h0 : b ≠ 0 := fun hb => by simp [hb] at h
  have h1 : b ≠ 1 := fun hb => by simp [hb] at h
  rw [sourceOf, if_neg h0, if_neg h1]

theorem State.lineSwitch_of_target (h : P = s.profiles.target) : s.lineSwitch P = s := if_pos h

theorem State.lineSwitch_of_other (h : P ≠ s.profiles.target) : s.lineSwitch P = (s.switched P).completionTest := by
  rw [State.lineSwitch, if_neg h, State.switchTo_eq_switched]

theorem State.setSource_of_kept {x : ProfileSource}
    (h : x = .requests ∨ s.profiles.source = .lines ∨ s.profiles.lineLevel = s.profiles.target) :
    s.setSource x = { s with profiles := { s.profiles with source := x } } := by
  simp only [State.setSource]
  split
  next hc =>
    refine State.lineSwitch_of_target (h.elim (fun hx => ?_) fun h => h.elim (fun hl => ?_) id)
    · exact absurd hc.2 (by simp [hx])
    · exact absurd hc.1 (by simp [hl])
  next => rfl

theorem State.setSource_of_switch (h : s.profiles.source = .requests) (hl : s.profiles.lineLevel ≠ s.profiles.target) :
    s.setSource .lines =
      (State.switched { s with profiles := { s.profiles with source := .lines } } s.profiles.lineLevel).completionTest := by
  simp only [State.setSource]
  rw [if_pos ⟨h, trivial⟩]
  exact State.lineSwitch_of_other (s := { s with profiles := { s.profiles with source := .lines } }) hl

/-! ### A switch by the lines -/

theorem State.device_completionTest_switched (d : DevNum) :
    (s.switched P).completionTest.device d = (s.device d).map fun dv =>
      Device.reexamine (s.markerGranted d)
        (if (s.claim d).isSome = true then dv
        else { dv with profile := P, entries := dv.entries.map (Entry.change id dv.profile P dv.state) }) := by
  rw [State.device, State.completionTest_devices]
  exact PerDevice.get_ofFn _ d

/-! ### PSEL1:0 and its debounce (R111) -/

theorem exec_lineChange_of_no_candidate (h : s.hubState ≠ .ready ∨ s.profiles.candidate = none) :
    exec .lineChange s = .next s := by
  have hsame : (if s.ready = true then s.lineChange else s) = s := by
    rcases h with h | h
    · rw [if_neg (by rwa [State.ready_iff])]
    · simp [State.lineChange, h]
  exact congrArg Host.Outcome.next hsame

theorem exec_lineChange_of_candidate {level : Profile} (hr : s.hubState = .ready) (hc : s.profiles.candidate = some level) :
    exec .lineChange s = .next
      (if s.profiles.source = .lines then
        State.lineSwitch level
          { s with profiles := { s.profiles with lineLevel := level, candidate := none, candidateTime := 0 } }
      else { s with profiles := { s.profiles with lineLevel := level, candidate := none, candidateTime := 0 } }) := by
  simp only [exec, execLineChange, (State.ready_iff s).mpr hr, if_true, State.lineChange, hc]

theorem ProfileController.levelChanged_eq (level : Profile) (c : ProfileController) :
    c.levelChanged level =
      { c with candidate := if level = c.lineLevel then none else some level, candidateTime := 0 } := by
  unfold ProfileController.levelChanged
  split <;> rfl

end

/-! ### The statements -/

/-- Settles O36: the source, the operand, and then whether the request waits. -/
theorem selectProfileOfTheTargetOrRefused : Obligations.SelectProfileOfTheTargetOrRefused := by
  intro s p tag b wait ht
  rw [exec_selectProfile_of_takes ht, ← State.dequeue_profiles s p, ← State.full_dequeue s p p,
    ← State.dequeue_outstanding s p p]
  refine ⟨fun h => ?_, fun h hb => ?_, fun h hb => ⟨fun hw => ?_, fun hw htr => ⟨fun hbusy => ?_, fun hroom hno => ?_⟩⟩⟩
  · rw [reqSelectProfile_of_lines h, State.respond_eq]
  · rw [reqSelectProfile_of_none h (profileOf_eq_none hb), State.respond_eq]
  · rw [reqSelectProfile_of_profile h hb, if_pos rfl, State.selectSame_of_no_wait hw, State.respond_eq]
  · rw [reqSelectProfile_of_profile h hb, if_pos rfl, State.selectSame_of_wait hw htr, if_pos hbusy, State.respond_eq]
  · have hfree : ¬ ((s.dequeue p).full p ∨ ∃ o ∈ ((s.dequeue p).port p).outstanding, o.wait = .transition) :=
      not_or.mpr ⟨hroom, fun ⟨o, ho, hwait⟩ => hno o ho hwait⟩
    rw [reqSelectProfile_of_profile h hb, if_pos rfl, State.selectSame_of_wait hw htr, if_neg hfree, State.await_eq]

/-- Settles O38: `State.setSource` by whether the lines come to name another profile. -/
theorem setProfileSourceTakesTheLineLevel : Obligations.SetProfileSourceTakesTheLineLevel := by
  intro s p tag b ht
  rw [exec_setProfileSource_of_takes ht, ← State.dequeue_profiles s p]
  refine ⟨fun h => ?_, fun h hkept => ?_, fun h hsrc hl v hv => ?_⟩
  · simp only [reqSetProfileSource, sourceOf_eq_none h, State.respond_eq]
  · have hkept' : (if b = 0 then ProfileSource.requests else .lines) = .requests ∨
        (s.dequeue p).profiles.source = .lines ∨ (s.dequeue p).profiles.lineLevel = (s.dequeue p).profiles.target :=
      hkept.imp_left fun hb => if_pos hb
    simp only [reqSetProfileSource, sourceOf_of_le h, State.setSource_of_kept hkept', State.respond_eq]
    rfl
  · subst h
    have hswitch := State.setSource_of_switch hsrc hl
    refine ⟨?_, ?_, fun d => ?_⟩
    · rw [hv, ← hswitch, ← State.respond_eq]
      rfl
    · rw [hv]
      exact State.completionTest_switched_profiles (u := State.switched _ _) rfl
    · rw [hv, State.device_completionTest_switched, ← State.device_dequeue s p d, ← State.markerGranted_dequeue s p d,
        ← State.claim_dequeue s p d]
      rfl

/-- Settles O54: PSEL1:0 by the hub's state, and the candidate by the source and the target. -/
theorem linesAreDebouncedIntoSwitches : Obligations.LinesAreDebouncedIntoSwitches := by
  intro s level
  refine ⟨fun h => congrArg Host.Outcome.next (if_pos h), fun h => ⟨fun hr => ?_, fun hr => ?_⟩,
    exec_lineChange_of_no_candidate, fun hr hc => ⟨fun hk => ?_, fun hs ht v hv => ⟨?_, ?_, fun d => ?_⟩⟩⟩
  · have hready : s.ready ≠ true := (State.ready_iff s).not.mpr hr
    simp only [exec, execPselChange, if_neg h, if_neg hready]
  · simp only [exec, execPselChange, if_neg h, (State.ready_iff s).mpr hr, if_true, ProfileController.levelChanged_eq]
  · rw [exec_lineChange_of_candidate hr hc]
    split
    next hl => exact congrArg Host.Outcome.next (State.lineSwitch_of_target (hk.resolve_left (by simp [hl])))
    next => rfl
  · rw [exec_lineChange_of_candidate hr hc, if_pos hs, hv]
    exact congrArg Host.Outcome.next (State.lineSwitch_of_other ht)
  · rw [hv]
    exact State.completionTest_switched_profiles (u := State.switched _ _) rfl
  · rw [hv, State.device_completionTest_switched]
    rfl

/-- Settles O37: the completion test by what holds it up, and the switch through `State.profileSelected`. -/
theorem selectProfileSwitchesEveryDevice : Obligations.SelectProfileSwitchesEveryDevice := by
  refine ⟨fun u => ⟨State.completionTest_of_none, fun tr htr => ⟨fun h => ?_, fun hm hd => ?_⟩⟩, ?_⟩
  · exact State.completionTest_of_stays htr (h.imp State.anyMark_iff.mpr Transition.anyDeferred_iff.mpr)
  · exact State.completionTest_settles htr (State.anyMark_eq_false hm) (Transition.anyDeferred_eq_false hd)
  intro s p tag P wait after held stays count ht hsrc hne hafter hheld hstays hcount
  have hb : (BitVec.ofNat 8 P.val : Byte).toNat = P.val := by
    have := P.isLt
    simp
    omega
  have hreq : exec (.selectProfile p) s = .next ((s.dequeue p).selectOther p tag P wait) := by
    rw [exec_selectProfile_of_takes ht, reqSelectProfile_of_profile (by rwa [State.dequeue_profiles]) hb, if_neg]
    rwa [State.dequeue_profiles]
  have hdevice : ∀ d, ((s.dequeue p).switched P).device d = after d := fun d => by
    rw [hafter, ← State.device_dequeue s p d, ← State.markerGranted_dequeue s p d, ← State.claim_dequeue s p d]
    exact PerDevice.get_ofFn _ d
  have hdeferred : ∀ d, ((s.dequeue p).newTransition P).deferred.get d = true ↔ held d := fun d => by
    rw [hheld, State.newTransition_deferred_iff, State.device_dequeue, State.claim_dequeue]
  have hunapplied : ((s.dequeue p).newTransition P).unapplied = count := by
    simp only [← State.device_dequeue s p, ← State.claim_dequeue s p] at hcount
    exact hcount.symm
  have hflight : ((s.dequeue p).switched P).staysInFlight = true ↔ stays := by
    rw [State.staysInFlight_switched_iff, hstays, State.anyMark_iff, Transition.anyDeferred_iff, or_comm]
    simp only [hdevice, hdeferred]
  have hroom : ¬ (wait = true ∧ s.full p ∧ stays) →
      exec (.selectProfile p) s = .next ((s.dequeue p).profileSelected p tag P wait) := fun h => by
    rw [hreq, State.selectOther_of_room (by rwa [State.full_dequeue, hflight])]
  refine ⟨fun v hv => ⟨fun hw => ?_, fun hw h => ?_⟩, fun hw hfull hs => ?_, fun h => ⟨_, hroom h, ?_⟩⟩
  · rw [hroom (by simp [hw]), hw, hv, ← State.respond_eq]
    rfl
  · rw [hroom (by simpa [hw] using h), hw, hv, ← State.await_eq]
    rfl
  · rw [hreq, State.selectOther_of_full hw ((State.full_dequeue s p p).mpr hfull) (hflight.mpr hs), State.respond_eq]
  · refine ⟨State.profileSelected_eq, ?_, fun d => (State.device_profileSelected d).trans (hdevice d), fun htr q => ?_,
      fun hw => ?_, fun hs => ?_, fun hs => ?_⟩
    · rw [State.profiles_profileSelected, State.dequeue_profiles]
    · refine List.IsPrefix.trans ?_ (State.responses_switched_prefix q)
      rw [State.port_switched_of_transition (by rwa [State.dequeue_profiles]), PortSide.answer, State.dequeue_responses,
        State.dequeue_outstanding, toWaiters_responses]
    · subst hw
      exact State.getLast?_profileSelected_of_no_wait
    · obtain ⟨hprofiles, hwaits⟩ := State.profileSelected_of_stays (tag := tag) (p := p) (wait := wait) (hflight.mpr hs)
      exact ⟨⟨_, by rw [hprofiles]; rfl, rfl, hunapplied, hdeferred⟩, hwaits⟩
    · obtain ⟨hnone, hwaits, hnotices⟩ := State.profileSelected_of_settles (tag := tag) (p := p) (wait := wait)
        (eq_false_of_ne_true (hflight.not.mpr hs))
      rw [hunapplied] at hwaits hnotices
      refine ⟨hnone, hwaits, fun q hadmit hlen => ?_⟩
      rw [hnotices q]
      obtain ⟨hlist, hmask⟩ := (s.dequeue p).notices_switched P q
      refine PortSide.mem_post ?_ ?_
      · rw [hmask, State.dequeue_mask]
        exact hadmit
      · rw [hlist, State.dequeue_notices]
        exact hlen

end Sys2Proof.Machine

/-! Cold starts, the start steps and the supply hold (R65, R88, R173 to R179, R185 to R187). -/

namespace Sys2Proof.Machine

section
variable {s : State}

/-! ### The causes of a cold start (R175, R179, R187) -/

/-- A cold start is the reset state but for the input levels, the banks and the commands waiting. -/
theorem State.coldStart_eq (s : State) :
    s.coldStart = { State.reset with inputs := s.inputs, bankA := s.bankA, bankB := s.bankB, pending := s.pending } := rfl

theorem State.coldStart_dequeue (s : State) (p : Port) : (s.dequeue p).coldStart = s.coldStart := by
  simp [State.coldStart_eq]

theorem exec_vddBelowRunLevel_of_ready (h : s.hubState = .ready) :
    exec .vddBelowRunLevel s = .next (s.enterHold.setSupply .belowRun) :=
  congrArg Host.Outcome.next (if_pos h)

theorem exec_vddBelowRunLevel_of_not_ready (h : s.hubState ≠ .ready) (hs : s.inputs.supply = .aboveRun) :
    exec .vddBelowRunLevel s = .next (s.setSupply .belowRun) :=
  congrArg Host.Outcome.next ((if_neg h).trans (if_pos hs))

theorem exec_vddAboveRunLevel_of_lowSupply (h : s.hubState = .lowSupply) :
    exec .vddAboveRunLevel s = .next (s.setSupply .aboveRun).leaveHold :=
  congrArg Host.Outcome.next (if_pos h)

theorem exec_vddAboveRunLevel_of_not_lowSupply (h : s.hubState ≠ .lowSupply) :
    exec .vddAboveRunLevel s = .next (s.setSupply .aboveRun) :=
  congrArg Host.Outcome.next (if_neg h)

theorem exec_powerUp_of_belowRetain (h : s.inputs.supply = .belowRetain) :
    exec .powerUp s = .next (s.coldStart.setSupply .belowRun) :=
  congrArg Host.Outcome.next (if_pos h)

theorem exec_vddBelowRetainLevel_of_above (h : s.inputs.supply ≠ .belowRetain) :
    exec .vddBelowRetainLevel s = .next (s.coldStart.setSupply .belowRetain) :=
  congrArg Host.Outcome.next (if_neg h)

theorem exec_restart_of_takes {tag : Byte} (h : s.Takes .h .restart tag) :
    exec (.restart .h) s = .next (reqRestart .h tag (s.dequeue .h)) :=
  congrArg Host.Outcome.next (State.takeRequest_of_takes h _)

/-- Settles O40: each cause leaves `State.coldStart`, the reset state but for the inputs, the banks and the queue. -/
theorem coldStartsKeepTheBanksAlone : Obligations.ColdStartsKeepTheBanksAlone := by
  rintro s cold rfl
  refine ⟨rfl, rfl, exec_vddBelowRunLevel_of_not_ready, exec_vddAboveRunLevel_of_not_lowSupply,
    exec_powerUp_of_belowRetain, exec_vddBelowRetainLevel_of_above, fun tag ht => ?_⟩
  rw [exec_restart_of_takes ht, reqRestart, State.dequeue_save]
  refine ⟨fun h => ?_, fun h => ?_⟩
  · rw [if_neg h, State.coldStart_dequeue, State.coldStart_eq]
  · rw [if_pos h, State.respond_eq]

/-! ### The start steps (R176 to R178) -/

/-- The origin and the snapshot of the bank that the start steps select. -/
def startBank (a b : Bank) : Option (Origin × Snapshot) :=
  match a, b with
  | .valid n x, .valid m y => if n < m then some (.bankB, y) else some (.bankA, x)
  | .valid _ x, .invalid => some (.bankA, x)
  | .invalid, .valid _ y => some (.bankB, y)
  | .invalid, .invalid => none

/-- `startBank` is what `selectBank` selects, without its sequence. -/
theorem startBank_eq (a b : Bank) : startBank a b = (selectBank a b).map fun x => (originOf (some x), x.2.2) := by
  cases a with
  | invalid => cases b <;> rfl
  | valid n x =>
    cases b with
    | invalid => rfl
    | valid m y =>
      simp only [startBank, selectBank]
      split <;> rfl

theorem originOf_selectBank (a b : Bank) : originOf (selectBank a b) = (startBank a b).elim .noImage Prod.fst := by
  rw [startBank_eq]
  cases selectBank a b <;> rfl

theorem snapshot_selectBank (a b : Bank) : (selectBank a b).map (fun x => x.2.2) = (startBank a b).map Prod.snd := by
  rw [startBank_eq, Option.map_map]
  rfl

theorem ProfileController.newLevel_cold (c : ProfileController) (level : Profile) (h : c.candidate = none)
    (ht : c.candidateTime = 0) :
    c.newLevel level = { c with candidate := if level = c.lineLevel then none else some level } := by
  rw [ProfileController.newLevel, if_neg (by simp [h]), ProfileController.levelChanged]
  obtain ⟨⟩ := c
  cases h
  cases ht
  split <;> rfl

/-- The profile controller at a cold start, by fields (R124). -/
theorem coldProfiles_eq (snap : Option Snapshot) (psel level : Profile) :
    coldProfiles snap psel level =
      { source := snap.elim .requests Snapshot.source
        target := snap.elim 0 fun x => if x.source = .lines then psel else x.bootProfile
        lineLevel := psel, candidate := if level = psel then none else some level, candidateTime := 0
        transition := none } := by
  unfold coldProfiles
  rw [ProfileController.newLevel_cold _ _ rfl rfl]
  cases snap <;> rfl

theorem portAddressOf_toNat (adr : Fin 4) : (portAddressOf adr).toNat = 0x5C + adr.val := by
  have h : Config.addressBase + adr.val < 2 ^ 7 := by
    have := adr.isLt
    simp [Config.addressBase]
    omega
  rw [portAddressOf, BitVec.toNat_ofNat, Nat.mod_eq_of_lt h]

theorem exec_startStepsComplete_of_start (h : s.hubState = .start) (hr : s.inputs.rst = false)
    (hs : s.inputs.supply = .aboveRun) (adr : Fin 4) (psel : Profile) :
    exec (.startStepsComplete adr psel) s = .next (s.startUp adr psel) :=
  congrArg Host.Outcome.next (if_pos ⟨h, hr, hs⟩)

/-- The state after the start steps: STARTED is posted to both cold ports. -/
theorem State.startUp_eq (adr : Fin 4) (psel : Profile) (s : State) :
    s.startUp adr psel =
      { s.coldStart with
        hubState := .ready
        origin := originOf (selectBank s.bankA s.bankB)
        profiles := coldProfiles ((startBank s.bankA s.bankB).map Prod.snd) psel s.inputs.psel
        devices := coldDevices ((startBank s.bankA s.bankB).map Prod.snd)
          (coldProfiles ((startBank s.bankA s.bankB).map Prod.snd) psel s.inputs.psel).target
        ports := ⟨PortSide.cold.post (.started (originOf (selectBank s.bankA s.bankB))),
          PortSide.cold.post (.started (originOf (selectBank s.bankA s.bankB)))⟩
        portH := { PortH.cold with address := portAddressOf adr, phase := .idle, unsynced := true }
        portL := { PortL.cold with framing := framingAtReady s.inputs.lfrm } } := by
  rw [← snapshot_selectBank, State.startUp, State.post_eq]
  rfl

theorem BankDevice.build_eq (target : Profile) (b : BankDevice) :
    b.build target =
      { params := b.params, state := if b.active then .loading else .dormant
        phase := if b.active = true ∧ b.entries = [] then .marker else .entries
        probeRemaining := b.params.probeInterval, probeElapsed := 0, probeDue := false, losses := 0
        profile := target, entries := b.entries.map BankEntry.build } := by
  simp only [BankDevice.build, Bool.and_eq_true, List.isEmpty_iff]

/-- Settles O41: `State.startUp_eq`, with the bank, the profile controller and the devices by their own lemmas. -/
theorem startStepsBuildTheImage : Obligations.StartStepsBuildTheImage := by
  intro s adr psel bank hhub hrst hsupply hbank
  obtain rfl : bank = startBank s.bankA s.bankB := hbank
  refine ⟨_, exec_startStepsComplete_of_start hhub hrst hsupply adr psel, ?_⟩
  rw [State.startUp_eq, originOf_selectBank, coldProfiles_eq]
  have haddress := portAddressOf_toNat adr
  have hlate (d : DevNum) (p : Port) : s.coldStart.lateMark d p = .none := by
    rw [State.lateMark, State.coldStart, PerDevice.get_const]
    cases p <;> rfl
  refine ⟨rfl, ?_, ?_, ?_, rfl, ?_, rfl, rfl, fun d => (coldDevices_get _ _ d).trans ?_,
    fun d => ⟨PerDevice.get_const _ d, hlate d⟩, rfl, rfl, rfl, rfl, rfl, fun p => ?_, rfl, haddress, rfl, rfl, rfl, rfl, rfl, rfl⟩
  · cases startBank s.bankA s.bankB <;> rfl
  · cases startBank s.bankA s.bankB <;> rfl
  · cases startBank s.bankA s.bankB <;> rfl
  · simp only [eq_comm]
  · cases startBank s.bankA s.bankB with
    | none => rfl
    | some b => exact congrArg (Option.map · (b.2.devices.get d)) (funext (BankDevice.build_eq _))
  · cases p <;> cases startBank s.bankA s.bankB <;> rfl

/-! ### The supply hold (R65, R160, R173, R185) -/

theorem PortH.holdEntry_eq (q : PortH) :
    q.holdEntry =
      { q with
        phase := .inactive, unsynced := false, cursor := .none, stopped := false, ack := false
        buffer := if q.phase = .write ∧ q.buffer.isComplete = false then .empty else q.buffer } := by
  obtain ⟨address, phase, unsynced, buffer, cursor, stopped, ack⟩ := q
  cases phase <;> cases buffer <;> rfl

theorem PortL.holdEntry_eq (q : PortL) :
    q.holdEntry =
      { q with
        framing := .inactive, latch := none, buffer := if q.buffer.isComplete = true then q.buffer else .empty } := by
  obtain ⟨framing, latch, buffer, outLatch, outFull, cursor⟩ := q
  cases buffer <;> rfl

theorem SaveUnit.cut_eq (u : SaveUnit) : u.cut = if u.phase = .writing then { u with phase := .aborted } else u := by
  obtain ⟨phase, record, lastOutcome, lastSequence⟩ := u
  cases phase <;> rfl

/-- The device that a cut transaction names, where it is not marked for discard, is the one device that the cut changes. -/
theorem State.device_cutDevice_of_ne {t : Txn} {d : DevNum} (h : d ≠ t.device) : (s.cutDevice t).device d = s.device d := by
  unfold State.cutDevice
  split
  · rw [State.device_modDevice, if_neg h]
  · rw [State.device_modDevice, if_neg h]
  all_goals rfl

theorem State.devices_cutDevice_of_kind {t : Txn} (h : t.kind = .marker ∨ t.kind = .manualRead ∨ t.kind = .manualWrite) :
    (s.cutDevice t).devices = s.devices := by
  rcases h with h | h | h <;> simp only [State.cutDevice, h]

theorem State.device_cutDevice_of_push {t : Txn} (h : t.kind = .push) :
    (s.cutDevice t).device t.device = (s.device t.device).map (Device.updateEntry t.register Entry.cut) := by
  simp only [State.cutDevice, h]
  rw [State.device_modDevice, if_pos rfl]

theorem State.device_cutDevice_of_probe {t : Txn} (h : t.kind = .probe) :
    (s.cutDevice t).device t.device =
      (s.device t.device).map fun dv => { dv with probeDue := true, probeRemaining := 0, probeElapsed := 0 } := by
  simp only [State.cutDevice, h]
  rw [State.device_modDevice, if_pos rfl]

theorem Device.updateEntry_cut (r : Register) (dv : Device) :
    dv.updateEntry r Entry.cut =
      { dv with
        entries := dv.entries.map fun e =>
          if e.register = r ∧ e.isInFlight = true then { e with state := .pending, applied := none } else e } := by
  have hentry : ∀ e : Entry, (if e.register = r then e.cut else e) =
      if e.register = r ∧ e.isInFlight = true then { e with state := .pending, applied := none } else e := fun e => by
    by_cases hr : e.register = r <;> simp [hr, Entry.cut]
  exact congrArg (fun es => { dv with entries := es }) (List.map_congr_left fun e _ => hentry e)

/-- What the cut leaves: no transaction and no frame, the cursor as R59 moves it, and the devices of `State.cutDevice`. -/
theorem State.cutTxn_fields (s : State) (h : s.idleLaw = true) :
    s.cutTxn = { s with devices := s.cutTxn.devices, cursor := s.cutTxn.cursor, txn := none, link := none } := by
  have hlink : s.cutTxn.link = none := by
    cases ht : s.txn with
    | none =>
      rw [State.cutTxn_of_none ht]
      have := (State.idleLaw_iff.mp h).2
      simpa [ht] using this
    | some t =>
      rw [State.cutTxn_of_txn ht]
      rfl
  conv_lhs => rw [State.cutTxn_eq, s.txn_cutTxn, hlink]

theorem State.cursor_cutDevice (s : State) (t : Txn) : (s.cutDevice t).cursor = s.cursor := by
  unfold State.cutDevice
  split
  · exact State.modDevice_cursor _ _ _
  · exact State.modDevice_cursor _ _ _
  all_goals rfl

theorem State.cursor_cutTxn_of_txn {t : Txn} (h : s.txn = some t) :
    s.cutTxn.cursor =
      if t.kind = .push ∨ t.kind = .marker then (if t.device = 5 then 0 else t.device + 1) else s.cursor := by
  have hcursor : (if t.discard then s else s.cutDevice t).cursor = s.cursor := by
    split
    · rfl
    · exact s.cursor_cutDevice t
  rw [State.cutTxn_of_txn h, State.endTxn_cursor, nextDev_eq, hcursor]

theorem State.devices_cutTxn_of_txn {t : Txn} (h : s.txn = some t) :
    s.cutTxn.devices = if t.discard then s.devices else (s.cutDevice t).devices := by
  rw [State.cutTxn_of_txn h, State.endTxn_devices]
  split <;> rfl

theorem State.device_cutTxn_of_kept {t : Txn} (h : s.txn = some t) (hd : t.discard = false) (d : DevNum) :
    s.cutTxn.device d = (s.cutDevice t).device d := by
  rw [State.device, State.devices_cutTxn_of_txn h, hd]
  rfl

/-- The state in LOW_SUPPLY: the state after the cut, with both ports INACTIVE and a save in WRITING aborted. -/
theorem State.enterHold_eq (s : State) :
    s.enterHold =
      { s.cutTxn with
        hubState := .lowSupply, portH := s.portH.holdEntry, portL := s.portL.holdEntry, save := s.save.cut } := by
  simp only [State.enterHold, State.cutTxn_portH, State.cutTxn_portL, State.cutTxn_save]

/-- Settles O42: the cut by the kind of the transaction in progress, then each port and the save by its own equation. -/
theorem supplyHoldCutsAndKeeps : Obligations.SupplyHoldCutsAndKeeps := by
  intro s hready hidle
  refine ⟨_, exec_vddBelowRunLevel_of_ready hready, ?_⟩
  rw [State.enterHold_eq, ← PortH.holdEntry_eq, ← PortL.holdEntry_eq, ← SaveUnit.cut_eq]
  refine ⟨?_, fun ht => ?_, fun t ht => ⟨State.cursor_cutTxn_of_txn ht, fun d hne => ?_, fun hkeep => ?_,
    fun hdis hk => ?_, fun hdis hk => ?_⟩, fun k => ?_, rfl, rfl, rfl⟩
  · rw [State.cutTxn_fields s hidle]
    rfl
  · have h := State.cutTxn_of_none ht
    have hdevices := congrArg State.devices h
    have hcursor := congrArg State.cursor h
    exact ⟨hdevices, hcursor⟩
  · cases hdis : t.discard with
    | true =>
      have h := State.devices_cutTxn_of_txn ht
      rw [hdis] at h
      exact congrArg (PerDevice.get · d) h
    | false => exact (State.device_cutTxn_of_kept ht hdis d).trans (State.device_cutDevice_of_ne hne)
  · refine (State.devices_cutTxn_of_txn ht).trans ?_
    split
    next => rfl
    next hdis => exact State.devices_cutDevice_of_kind (hkeep.resolve_left hdis)
  · refine (State.device_cutTxn_of_kept ht hdis _).trans ((State.device_cutDevice_of_push hk).trans ?_)
    rw [funext (Device.updateEntry_cut t.register)]
  · exact (State.device_cutTxn_of_kept ht hdis _).trans (State.device_cutDevice_of_probe hk)
  · rw [State.cutTxn_fields s hidle]
    exact State.linkLines_of_idle rfl k

/-! ### The return to READY (R88, R111, R186) -/

theorem Device.recover_of_idle {dv : Device} (h : dv.state = .dormant ∨ dv.state = .fenced) : dv.recover = dv := by
  rcases h with h | h <;> simp only [Device.recover, h]

theorem Device.recover_of_loading {dv : Device} (h : dv.state = .loading) : dv.recover = dv.beginLoad := by
  simp only [Device.recover, h]

theorem Device.recover_of_probing_off {dv : Device} (h : dv.state = .running ∨ dv.state = .diverged)
    (hp : dv.params.probeInterval = 0) : dv.recover = dv.beginLoad := by
  rcases h with h | h <;> simp only [Device.recover, h, hp, if_true]

/-- A device that is probed becomes SUSPECT with its probe due. -/
theorem Device.recover_of_probed {dv : Device}
    (h : (dv.state = .running ∨ dv.state = .diverged) ∧ dv.params.probeInterval ≠ 0 ∨ dv.state = .suspect) :
    dv.recover = { dv with state := .suspect, probeDue := true, probeRemaining := 0, probeElapsed := 0 } := by
  rcases h with ⟨h | h, hp⟩ | h
  · simp only [Device.recover, h, if_neg hp]
  · simp only [Device.recover, h, if_neg hp]
  · obtain ⟨⟩ := dv
    cases h
    rfl

/-- The level of PSEL1:0 at the return: the line level cancels the candidate, a candidate still there resumes, and any other
level starts one. -/
theorem ProfileController.newLevel_eq (level : Profile) (c : ProfileController) :
    c.newLevel level =
      if level = c.lineLevel then { c with candidate := none, candidateTime := 0 }
      else if c.candidate = some level then c
      else { c with candidate := some level, candidateTime := 0 } := by
  unfold ProfileController.newLevel ProfileController.levelChanged
  by_cases hl : level = c.lineLevel <;> simp [hl]

theorem State.closeAbortedSave_of_none (h : s.save.phase ≠ .aborted ∨ s.save.record = none) : s.closeAbortedSave = s := by
  unfold State.closeAbortedSave
  split
  next hp hr => rcases h with h | h <;> simp_all
  next => rfl

theorem State.closeAbortedSave_of_some {r : SaveRecord} (h : s.save.phase = .aborted) (hr : s.save.record = some r) :
    s.closeAbortedSave = s.closeSave false r.sequence := by
  simp only [State.closeAbortedSave, h, hr]

/-- Of the state an aborted save changes the save unit and the ports. -/
theorem State.closeAbortedSave_eq (s : State) :
    s.closeAbortedSave = { s with save := s.closeAbortedSave.save, ports := s.closeAbortedSave.ports } := by
  unfold State.closeAbortedSave
  split
  · rw [State.closeSave_eq]
  · rfl

/-- The hub as it becomes READY again, before the aborted save and the notice. -/
def State.recovered (s : State) : State :=
  { s with
    hubState := .ready, inputs := { s.inputs with supply := .aboveRun }, profiles := s.profiles.newLevel s.inputs.psel
    devices := PerDevice.ofFn fun d => (s.device d).map Device.recover }

theorem State.device_recovered (s : State) (d : DevNum) : s.recovered.device d = (s.device d).map Device.recover :=
  PerDevice.get_ofFn _ d

/-- Both ports enter their states at READY. -/
def State.portsReopened (s : State) : State :=
  { s with
    portH := { s.portH with phase := .idle, unsynced := true }
    portL := { s.portL with framing := framingAtReady s.inputs.lfrm } }

theorem State.leaveHold_eq (s : State) :
    (s.setSupply .aboveRun).leaveHold =
      { s.recovered with
        save := s.recovered.closeAbortedSave.save
        ports := s.recovered.closeAbortedSave.eachPort (PortSide.post .supplyRestored)
        portH := { s.portH with phase := .idle, unsynced := true }
        portL := { s.portL with framing := if s.inputs.lfrm then .unsynced else .idle } } := by
  have hleave : (s.setSupply .aboveRun).leaveHold =
      (s.recovered.closeAbortedSave.post .supplyRestored).portsReopened := rfl
  rw [hleave, State.post_eq, State.closeAbortedSave_eq]
  rfl

/-- Settles O43: each device by `Device.recover`, the save and the notices through `State.closeAbortedSave`. -/
theorem returnToReadyRecoversEachDevice : Obligations.ReturnToReadyRecoversEachDevice := by
  intro s hlow
  refine ⟨_, exec_vddAboveRunLevel_of_lowSupply hlow, ?_⟩
  rw [State.leaveHold_eq]
  have hdevice := s.device_recovered
  refine ⟨rfl, fun d hd => ?_, fun d dv hd => ?_, ProfileController.newLevel_eq _ _, fun h => ?_, fun r hp hr => ?_⟩
  · exact (hdevice d).trans (by rw [hd]; rfl)
  · have hrec : s.recovered.device d = some dv.recover := (hdevice d).trans (by rw [hd]; rfl)
    exact ⟨fun h => hrec.trans (by rw [Device.recover_of_idle h]), fun h => hrec.trans (by rw [Device.recover_of_loading h]),
      fun h hp => hrec.trans (by rw [Device.recover_of_probing_off h hp]),
      fun h => hrec.trans (by rw [Device.recover_of_probed h])⟩
  · rw [State.closeAbortedSave_of_none (s := s.recovered) h]
    exact ⟨rfl, rfl⟩
  · rw [State.closeAbortedSave_of_some (s := s.recovered) hp hr, State.closeSave_eq]
    simp only [PortSide.answer_saveAnswer]
    exact ⟨rfl, rfl⟩

end

end Sys2Proof.Machine

/-! The frames of a transaction, the judgement of markers and probes, losses, and the probe timers (R29, R37, R57 to R60, R76
to R85, R89, R105). -/

namespace Sys2Proof.Machine

section
variable {s : State} {t : Txn} {f : LinkFrame} {bits : SampledBits} {dv held : Device} {d : DevNum}

/-! ### The end of a transaction (R59) -/

/-- PUSH and MARKER are the walker's, and their end advances the cursor. -/
theorem State.endTxn_of_walker (h : t.kind = .push ∨ t.kind = .marker) (s : State) :
    s.endTxn t = { s with txn := none, link := none, cursor := if t.device = 5 then 0 else t.device + 1 } := by
  rw [State.endTxn, if_pos h, nextDev_eq]

/-! ### The ends of frames, by the commands -/

theorem exec_followOnFrameStart_of_txn (ht : s.txn = some t) (hl : s.link = none) (hr : s.hubState = .ready) :
    exec .followOnFrameStart s = .next (s.startTxn { t with frame := t.frame + 1 } .read 0) := by
  change execFollowOnFrameStart s = _
  simp only [execFollowOnFrameStart, ht, hl, (State.ready_iff s).mpr hr, Option.isNone_none, and_self, if_true]

theorem exec_markerWriteFrameEnd_of_marker (ht : s.txn = some t) (hl : s.link = some f) (hk : t.kind = .marker)
    (hf : t.frame = 1) : exec .markerWriteFrameEnd s = .next { s with link := none } := by
  change execMarkerWriteFrameEnd s = _
  simp only [execMarkerWriteFrameEnd, hk ▸ State.frameOf_of_txn ht hl, hf, if_true]
  rfl

theorem exec_confirmReadEnd_of_parity (ht : s.txn = some t) (hl : s.link = some f) (hk : t.kind = .marker)
    (hf : t.frame = 2) (hb : readResult bits = none) : exec (.confirmReadEnd bits) s = .next { s with link := none } := by
  change execConfirmReadEnd bits s = _
  simp only [execConfirmReadEnd, hk ▸ State.frameOf_of_txn ht hl, hf, hb, and_self, if_true, OfNat.ofNat_ne_one, if_false]
  rfl

/-- The last frame of a marker transaction judges the confirm read, unless the transaction is discarded. -/
theorem exec_confirmReadEnd_of_last (ht : s.txn = some t) (hl : s.link = some f) (hk : t.kind = .marker)
    (hf : t.frame = 3 ∨ (t.frame = 2 ∧ readResult bits ≠ none)) :
    exec (.confirmReadEnd bits) s = .next
      ((if t.discard then s else s.judgeConfirm t.device (readResult bits)).endTxn t) := by
  change execConfirmReadEnd bits s = _
  have hfirst : t.frame ≠ 1 := by omega
  have hlast : ¬ (t.frame = 2 ∧ readResult bits = none) := fun h => hf.elim (by omega) fun h' => h'.2 h.2
  simp only [execConfirmReadEnd, hk ▸ State.frameOf_of_txn ht hl, if_neg hfirst, if_neg hlast]

theorem exec_probeReadEnd_of_parity (ht : s.txn = some t) (hl : s.link = some f) (hk : t.kind = .probe)
    (hf : t.frame = 1) (hb : readResult bits = none) : exec (.probeReadEnd bits) s = .next { s with link := none } := by
  change execProbeReadEnd bits s = _
  simp only [execProbeReadEnd, hk ▸ State.frameOf_of_txn ht hl, hf, hb, and_self, if_true]
  rfl

/-- The last frame of a probe judges it, unless the transaction is discarded. -/
theorem exec_probeReadEnd_of_last (ht : s.txn = some t) (hl : s.link = some f) (hk : t.kind = .probe)
    (hf : t.frame = 2 ∨ (t.frame = 1 ∧ readResult bits ≠ none)) :
    exec (.probeReadEnd bits) s = .next
      ((if t.discard then s else s.judgeProbe t.device (readResult bits)).endTxn t) := by
  change execProbeReadEnd bits s = _
  have hlast : ¬ (t.frame = 1 ∧ readResult bits = none) := fun h => hf.elim (by omega) fun h' => h'.2 h.2
  simp only [execProbeReadEnd, hk ▸ State.frameOf_of_txn ht hl, if_neg hlast]

/-- The write frame of a push under READBACK ends; a readback follows. -/
theorem exec_pushWriteFrameEnd_of_readback (ht : s.txn = some t) (hl : s.link = some f) (hk : t.kind = .push)
    (hf : t.frame = 1) (hv : t.params.verifyPolicy = .readback) :
    exec .pushWriteFrameEnd s = .next
      (if t.discard then s else s.modDevice t.device (Device.updateEntry t.register Entry.toReadback)).endFrame := by
  change execPushWriteFrameEnd s = _
  simp only [execPushWriteFrameEnd, hk ▸ State.frameOf_of_txn ht hl, hf, hv, ne_eq, not_true_eq_false, if_false]

/-- The last frame of a discarded push under policy NONE judges nothing. -/
theorem exec_pushWriteFrameEnd_of_discard (ht : s.txn = some t) (hl : s.link = some f) (hk : t.kind = .push)
    (hf : t.frame = 1) (hv : t.params.verifyPolicy = .none) (hc : t.discard = true) :
    exec .pushWriteFrameEnd s = .next (s.endTxn t) := by
  change execPushWriteFrameEnd s = _
  simp only [execPushWriteFrameEnd, hk ▸ State.frameOf_of_txn ht hl, hf, hv, hc, ne_eq, not_true_eq_false, if_false, if_true]

theorem exec_readbackEnd_of_discard (ht : s.txn = some t) (hl : s.link = some f) (hk : t.kind = .push)
    (hf : t.frame = 2) (hc : t.discard = true) : exec (.readbackEnd bits) s = .next (s.endTxn t) := by
  change execReadbackEnd bits s = _
  simp only [execReadbackEnd, hk ▸ State.frameOf_of_txn ht hl, hf, hc, OfNat.ofNat_ne_one, if_false, if_true]

theorem Device.updateEntry_toReadback (r : Register) (dv : Device) :
    dv.updateEntry r Entry.toReadback =
      { dv with
        entries := dv.entries.map fun e => if e.register = r then
          { e with state := match e.state with
              | .inFlight _ v => .inFlight .readback v
              | x => x }
          else e } := by
  have hentry : ∀ e : Entry, (if e.register = r then e.toReadback else e) = if e.register = r then
      { e with state := match e.state with
          | .inFlight _ v => .inFlight .readback v
          | x => x }
      else e := fun e => by
    obtain ⟨_, _, _, _, _, _, _, state⟩ := e
    cases state <;> rfl
  exact congrArg (fun es => { dv with entries := es }) (List.map_congr_left fun e _ => hentry e)

/-- Settles O47: a frame that another follows ends with `State.endFrame`, and a discarded transaction's last with the bare
`State.endTxn`. -/
theorem transactionsRunTheirFramesAndDiscard : Obligations.TransactionsRunTheirFramesAndDiscard := by
  refine ⟨fun s t ht => ⟨exec_followOnFrameStart_of_txn ht, fun f hl =>
    ⟨exec_markerWriteFrameEnd_of_marker ht hl, fun bits hb => ⟨fun hk hf => exec_confirmReadEnd_of_parity ht hl hk hf hb,
      fun hk hf => exec_probeReadEnd_of_parity ht hl hk hf hb⟩, fun hk hf hv hc dv hd => ?_⟩⟩,
    fun s t f ht hl hc => ⟨fun hk hf hv => ?_, fun hk hf hv => ?_, fun bits hk hf => ?_, fun bits hk hf => ?_,
      fun bits hk hf => ?_⟩⟩
  · rw [exec_pushWriteFrameEnd_of_readback ht hl hk hf hv, hc, State.modDevice_of_some hd, Device.updateEntry_toReadback]
    rfl
  · rw [exec_pushWriteFrameEnd_of_discard ht hl hk hf hv hc, State.endTxn_of_walker (.inl hk)]
  · rw [exec_pushWriteFrameEnd_of_readback ht hl hk hf hv, hc]
    rfl
  · rw [exec_readbackEnd_of_discard ht hl hk hf hc, State.endTxn_of_walker (.inl hk)]
  · rw [exec_confirmReadEnd_of_last ht hl hk hf, hc, if_pos rfl, State.endTxn_of_walker (.inr hk)]
  · rw [exec_probeReadEnd_of_last ht hl hk hf, hc, if_pos rfl, State.endTxn_of_not_walker (by simp [hk])]

/-! ### A matching confirm read or probe (R37, R79, R80, R89) -/

theorem State.judgeConfirm_of_match (hd : s.device d = some dv) :
    s.judgeConfirm d (some dv.params.marker) = s.confirmLoad d := by
  simp only [State.judgeConfirm, hd, if_true]

theorem State.judgeProbe_of_match (hd : s.device d = some dv)
    (hst : dv.state = .running ∨ dv.state = .diverged ∨ dv.state = .suspect) :
    s.judgeProbe d (some dv.params.marker) = s.probeMatched d := by
  simp only [State.judgeProbe, hd, hst, if_true]

/-- A device whose state is given by its entries is DIVERGED exactly where one is FAILED. -/
theorem Device.diverged_of_entries {after : Device} (h : after.state = if after.anyFailed then .diverged else .running) :
    after.state = .diverged ↔ after.anyFailed = true := by
  rw [h]
  cases after.anyFailed <;> simp

/-- A device that comes to RUNNING or DIVERGED from another state settles where no entry is left to push. -/
theorem PortSide.settling_of_entries {after : Device} (hb : dv.state ≠ .running ∧ dv.state ≠ .diverged)
    (ha : after.state = .running ∨ after.state = .diverged) (he : after.entries = dv.entries) :
    PortSide.settling d dv after = fun q =>
      if ∀ e ∈ dv.entries, e.isPending = false ∧ e.isInFlight = false then
        q.answer (toSettleWaits d (settledAnswer (dv.entries.filter fun e => decide (e.state = .failed)).length))
      else q := by
  have hbefore : ¬ dv.Settled := fun h => h.1.elim hb.1 hb.2
  funext q
  simp only [PortSide.settling, Device.Settled, ha, he, true_and, hbefore, not_false_eq_true, and_true]

theorem ite_failedCount_eq (dv : Device) :
    (if (dv.entries.filter fun e => decide (e.state = .failed)).length = 0 then DevState.running else .diverged) =
      if dv.anyFailed then .diverged else .running := by
  rw [← Device.failedCount_eq]
  have h := Device.failedCount_ne_zero_iff (dv := dv)
  cases hf : dv.anyFailed <;> simp_all

theorem Device.confirmed_eq (dv : Device) :
    dv.confirmed =
      { dv with
        state := if (dv.entries.filter fun e => decide (e.state = .failed)).length = 0 then .running else .diverged
        phase := .confirmed
        losses := if dv.params.probeInterval = 0 then 0 else dv.losses } := by
  rw [ite_failedCount_eq, Device.confirmed]

theorem Device.returned_eq (dv : Device) :
    dv.returned =
      { dv with
        losses := 0
        state := if (dv.entries.filter fun e => decide (e.state = .failed)).length = 0 then .running else .diverged } := by
  rw [ite_failedCount_eq, Device.returned]

/-- A matching confirm read: the device confirmed, LOAD_DONE posted, and the device-settle waits answered where it settles. -/
theorem State.confirmLoad_of_defined (hd : s.device d = some dv) :
    s.confirmLoad d =
      { s with
        devices := s.devices.set d (some dv.confirmed)
        ports := s.eachPort fun q => PortSide.settling d dv dv.confirmed (q.post (.loadDone d dv.failedCount)) } := by
  rw [State.confirmLoad_of_device hd, State.answerSettled_eq_settling hd (after := dv.confirmed) ?_
    fun _ => Device.diverged_of_entries rfl, State.post_eq]
  · rfl
  · rw [State.post_eq]
    exact State.device_setDevice_self s d dv.confirmed

theorem Device.confirmed_settles (dv : Device) : dv.confirmed.state = .running ∨ dv.confirmed.state = .diverged := by
  unfold Device.confirmed
  split <;> simp

theorem Device.returned_settles (dv : Device) : dv.returned.state = .running ∨ dv.returned.state = .diverged := by
  unfold Device.returned
  split <;> simp

/-- Settles O50: `State.confirmLoad` and `State.probeMatched` with the settle answers, and the end of the transaction. -/
theorem matchingMarkerEndsTheLoadOrClearsTheCount : Obligations.MatchingMarkerEndsTheLoadOrClearsTheCount := by
  refine ⟨fun s t f dv after failed ht hl hk hf hc hd hst hfailed hafter => ?_,
    fun s t f dv failed ht hl hk hf hc hd hfailed => ?_⟩
  · have hlast : t.frame = 3 ∨ (t.frame = 2 ∧ readResult (sampleOf dv.params.marker) ≠ none) := by
      rw [readResult_sampleOf]
      simpa [or_comm] using hf
    subst hfailed
    rw [← Device.confirmed_eq] at hafter
    rw [exec_confirmReadEnd_of_last ht hl hk hlast, hc, readResult_sampleOf, if_neg Bool.false_ne_true,
      State.judgeConfirm_of_match hd, State.confirmLoad_of_defined hd, State.endTxn_of_walker (.inr hk), hafter]
    simp only [PortSide.settling_of_entries (dv := dv) (after := dv.confirmed) (by simp [hst]) dv.confirmed_settles rfl,
      Device.failedCount_eq]
  · have hlast : t.frame = 2 ∨ (t.frame = 1 ∧ readResult (sampleOf dv.params.marker) ≠ none) := by
      rw [readResult_sampleOf]
      simpa [or_comm] using hf
    have hend : ¬ (t.kind = .push ∨ t.kind = .marker) := by simp [hk]
    subst hfailed
    rw [exec_probeReadEnd_of_last ht hl hk hlast, hc, readResult_sampleOf, if_neg Bool.false_ne_true]
    refine ⟨fun hst => ?_, fun hst => ?_⟩
    · rw [State.judgeProbe_of_match hd (hst.imp_right .inl), State.probeMatched_of_running hd hst,
        State.endTxn_of_not_walker hend]
      rfl
    · rw [State.judgeProbe_of_match hd (.inr (.inr hst)), State.probeMatched_of_suspect hd hst,
        State.answerSettled_eq_settling hd (State.device_setDevice_self s _ _) fun _ => Device.diverged_of_entries rfl,
        State.endTxn_of_not_walker hend, ← Device.returned_eq,
        PortSide.settling_of_entries (dv := dv) (after := dv.returned) (by simp [hst]) dv.returned_settles rfl]
      rfl

/-! ### A declared loss (R82 to R85, R105) -/

theorem State.judgeConfirm_of_mismatch (hd : s.device d = some dv) {result : Option Value}
    (h : result ≠ some dv.params.marker) : s.judgeConfirm d result = s.declareLoss d := by
  simp only [State.judgeConfirm, hd, if_neg h]

theorem State.judgeProbe_of_mismatch (hd : s.device d = some dv)
    (hst : dv.state = .running ∨ dv.state = .diverged ∨ dv.state = .suspect) {result : Option Value}
    (h : result ≠ some dv.params.marker) : s.judgeProbe d result = s.declareLoss d := by
  simp only [State.judgeProbe, hd, hst, if_true, if_neg h]

/-- The hub as a loss leaves it before the end of the claim: the late mark set, and the holder told. -/
def State.breakTold (s : State) (d : DevNum) (p : Port) : State :=
  { s with
    late := s.late.set d ((s.late.get d).set p .broken)
    ports := s.ports.set p ((s.port p).post (.claimBroken d)) }

theorem State.breakClaim_of_device (hd : s.device d = some dv) :
    s.breakClaim d = match s.claim d with
      | none => s
      | some c => (s.breakTold d c.holder).claimEnded d dv Entry.clearStaged := by
  unfold State.breakClaim
  cases s.claim d with
  | none => rfl
  | some c =>
    have htold : (s.setLate d c.holder .broken).postTo c.holder (.claimBroken d) = s.breakTold d c.holder := rfl
    have hd' : (s.breakTold d c.holder).device d = some dv := hd
    simp only [htold]
    exact State.endClaim_eq_claimEnded hd' _

theorem State.lossCounted_eq (s : State) (d : DevNum) (dv : Device) :
    s.lossCounted d dv =
      { s with
        devices := s.devices.set d (some { dv with losses := dv.losses + 1 })
        ports := s.eachPort fun q => q.post (.deviceLost d) } := by
  rw [State.lossCounted, State.post_eq]
  rfl

theorem State.device_lossCounted_self (s : State) (d : DevNum) (dv : Device) :
    (s.lossCounted d dv).device d = some { dv with losses := dv.losses + 1 } := by
  rw [State.device_lossCounted, if_pos rfl]

/-- The end of a marker transaction or probe whose read does not match. -/
theorem exec_mismatch {c : Instr} (ht : s.txn = some t) (hl : s.link = some f) (hc : t.discard = false)
    (hd : s.device t.device = some dv) (hm : readResult bits ≠ some dv.params.marker)
    (hcase : (t.kind = .marker ∧ (t.frame = 3 ∨ (t.frame = 2 ∧ readResult bits ≠ none)) ∧ c = .confirmReadEnd bits) ∨
      (t.kind = .probe ∧ (t.frame = 2 ∨ (t.frame = 1 ∧ readResult bits ≠ none)) ∧ c = .probeReadEnd bits ∧
        (dv.state = .running ∨ dv.state = .diverged ∨ dv.state = .suspect))) :
    exec c s = .next ((s.declareLoss t.device).endTxn t) := by
  rcases hcase with ⟨hk, hf, rfl⟩ | ⟨hk, hf, rfl, hst⟩
  · rw [exec_confirmReadEnd_of_last ht hl hk hf, hc, if_neg Bool.false_ne_true, State.judgeConfirm_of_mismatch hd hm]
  · rw [exec_probeReadEnd_of_last ht hl hk hf, hc, if_neg Bool.false_ne_true, State.judgeProbe_of_mismatch hd hst hm]

/-- A judgement's end of transaction moves the cursor from where it stood, unless the transaction is a probe. -/
theorem State.endTxn_of_judged {v : State} (hv : v.cursor = s.cursor) (hk : t.kind = .marker ∨ t.kind = .probe) :
    v.endTxn t =
      { v with
        txn := none, link := none
        cursor := if t.kind = .probe then s.cursor else if t.device = 5 then 0 else t.device + 1 } := by
  rcases hk with hk | hk
  · rw [State.endTxn_of_walker (.inr hk), if_neg (show ¬ t.kind = .probe by simp [hk])]
  · rw [State.endTxn_of_not_walker (by simp [hk]), if_pos hk, ← hv]

/-- Settles O51: the loss counted, the claim broken, and then the load or the fencing of `State.declareLoss_of_device`. -/
theorem mismatchDeclaresALoss : Obligations.MismatchDeclaresALoss := by
  intro s lost broken u v t f dv held bits c put marks ht hl hc hd hm hcase hput hlost hbroken hheld hmarks hu hv
  obtain rfl : put = Entry.clearStaged := funext hput
  obtain rfl : lost = s.lossCounted t.device dv := hlost.trans (State.lossCounted_eq s t.device dv).symm
  have hd' := s.device_lossCounted_self t.device dv
  obtain rfl : broken = (s.lossCounted t.device dv).breakClaim t.device := by
    rw [hbroken, State.breakClaim_of_device hd', State.lossCounted_eq]
    rfl
  obtain ⟨-, x, hx, hlosses, hshape, -⟩ := State.device_breakClaim hd'
  obtain rfl : held = x := Option.some.inj (hheld.symm.trans hx)
  obtain ⟨hparams, hregisters⟩ := Prod.mk.inj hshape
  have hlosses : held.losses = dv.losses + 1 := hlosses
  have hparams : held.params = dv.params := hparams
  refine ⟨?_, hlosses, hparams, hregisters⟩
  have hcursor : (s.declareLoss t.device).cursor = s.cursor := by simp
  rw [exec_mismatch ht hl hc hd hm hcase,
    State.endTxn_of_judged hcursor (hcase.imp And.left And.left)]
  have hloss : s.declareLoss t.device = v := by
    have hfenced : dv.losses + 1 = dv.params.fenceLimit →
        u = ((s.lossCounted t.device dv).breakClaim t.device).fencedAt t.device held := fun h => by
      rw [hu, if_pos h, hmarks, ← Device.markCount_eq, ← hparams]
      rfl
    rw [State.declareLoss_of_device hd hheld, hlosses, hparams, State.fence_of_device hheld, hv, hmarks,
      ← Device.markCount_eq]
    by_cases hlimit : dv.losses + 1 = dv.params.fenceLimit
    · rw [if_pos hlimit, hfenced hlimit]
      by_cases hmarked : held.markCount = 0 <;> simp [hlimit, hmarked]
    · rw [if_neg hlimit, if_neg fun h => hlimit h.1, hu, if_neg hlimit]
      rfl
  rw [hloss]

/-! ### Probe timers (R76) -/

theorem Device.timerRuns_iff : dv.timerRuns = true ↔
    dv.state.managed = true ∧ dv.params.probeInterval ≠ 0 ∧ dv.probeDue = false := by
  simp [Device.timerRuns, and_assoc]

theorem exec_probeTimerExpiry_of_stopped (hd : s.device d = some dv) (h : s.hubState ≠ .ready ∨ dv.timerRuns = false) :
    exec (.probeTimerExpiry d.val) s = .next s := by
  have hnum : devNum? d.val = some d := by simp [devNum?]
  have hstop : ¬ (s.ready && dv.timerRuns) = true := by
    rw [Bool.and_eq_true, State.ready_iff s]
    exact fun hr => h.elim (fun h => h hr.1) fun h => by simp [h] at hr
  simp only [exec, execProbeTimerExpiry, hnum, State.probeTimerOut, hd, if_neg hstop]

/-- Settles O52: a timer that runs by `Device.timerOut`, and one that does not by `exec_probeTimerExpiry_of_stopped`. -/
theorem probeTimersRunOut : Obligations.ProbeTimersRunOut := by
  intro s d dv hd
  refine ⟨fun hr hp hdue => ⟨fun hst => ?_, fun hst => ?_⟩, fun h => exec_probeTimerExpiry_of_stopped hd ?_⟩
  · have hruns : dv.timerRuns = true := Device.timerRuns_iff.mpr ⟨by rcases hst with h | h | h <;> rw [h] <;> rfl, hp, hdue⟩
    rw [exec_probeTimerExpiry_of_runs hr hd hruns, Device.timerOut, if_neg (by rcases hst with h | h | h <;> simp [h])]
    rfl
  · have hruns : dv.timerRuns = true := Device.timerRuns_iff.mpr ⟨by rw [hst]; rfl, hp, hdue⟩
    rw [exec_probeTimerExpiry_of_runs hr hd hruns, Device.timerOut, if_pos hst]
    rfl
  · refine h.imp_right fun h => eq_false_of_ne_true fun hruns => ?_
    obtain ⟨hmanaged, hp, hdue⟩ := Device.timerRuns_iff.mp hruns
    rcases h with h | h | h | h
    · exact hp h
    · simp [h] at hdue
    · simp [h, DevState.managed] at hmanaged
    · simp [h, DevState.managed] at hmanaged

end

end Sys2Proof.Machine

/-! The two ports: Port H's bus transactions, and Port L's frames and latches (R148 to R157, R163 to R167). -/

namespace Sys2Proof.Machine

section
variable {s : State} {b : Byte}

/-! ### The delivery of a frame (R126, R153, R167) -/

theorem State.queueHasRoom_iff {p : Port} : s.queueHasRoom p = true ↔ (s.port p).requests.length < 4 :=
  decide_eq_true_iff

theorem State.deliverH_of_room (h : (s.port .h).requests.length < 4) (f : Frame) :
    s.deliverH f =
      { s with
        portH := { s.portH with buffer := .empty }
        ports := s.ports.set .h { s.port .h with requests := (s.port .h).requests ++ [f] } } :=
  if_pos (State.queueHasRoom_iff.mpr h)

theorem State.deliverH_of_full (h : 4 ≤ (s.port .h).requests.length) (f : Frame) :
    s.deliverH f = { s with portH := { s.portH with buffer := .complete f } } :=
  if_neg (mt State.queueHasRoom_iff.mp (Nat.not_lt.mpr h))

theorem State.deliverL_of_room (h : (s.port .l).requests.length < 4) (f : Frame) :
    s.deliverL f =
      { s with
        portL := { s.portL with buffer := .empty }
        ports := s.ports.set .l { s.port .l with requests := (s.port .l).requests ++ [f] } } :=
  if_pos (State.queueHasRoom_iff.mpr h)

theorem State.deliverL_of_full (h : 4 ≤ (s.port .l).requests.length) (f : Frame) :
    s.deliverL f = { s with portL := { s.portL with buffer := .complete f } } :=
  if_neg (mt State.queueHasRoom_iff.mp (Nat.not_lt.mpr h))

theorem Buffer.isComplete_iff {x : Buffer} : x.isComplete = true ↔ ∃ f, x = .complete f := by
  cases x <;> simp [Buffer.isComplete]

/-! ### Bus conditions (R148, R151 to R153, R157) -/

/-- Port H in a bus phase, and no longer UNSYNCED. -/
def State.inPhase (s : State) (ph : BusPhase) : State := { s with portH := { s.portH with phase := ph, unsynced := false } }

theorem State.busCondition_of_inactive (h : s.portH.phase = .inactive) (ph : BusPhase) (n : Nat) :
    s.busCondition ph n = s := if_pos (.inl h)

theorem State.busCondition_of_active (h : s.portH.phase ≠ .inactive) {n : Nat} (hn : n < 8) (ph : BusPhase) :
    s.busCondition ph n = (s.endBusTransaction (decide (n ≠ 0))).inPhase ph :=
  if_neg fun hor => hor.elim h (Nat.not_le.mpr hn)

theorem State.endBusTransaction_of_idle (h : s.portH.phase = .idle ∨ s.portH.phase = .address) (mid : Bool) :
    s.endBusTransaction mid = s := by
  rcases h with h | h <;> simp only [State.endBusTransaction, h]

theorem State.endBusTransaction_of_read (h : s.portH.phase = .read) (mid : Bool) :
    s.endBusTransaction mid = { s with portH := { s.portH with cursor := .none, stopped := false } } := by
  simp only [State.endBusTransaction, h]
  rfl

theorem State.endBusTransaction_of_write (h : s.portH.phase = .write ∨ s.portH.phase = .skip) (mid : Bool) :
    s.endBusTransaction mid = s.endWriteH mid := by
  rcases h with h | h <;> simp only [State.endBusTransaction, h]

theorem State.endWriteH_of_no_frame (h : s.portH.buffer = .empty ∨ s.portH.buffer.isComplete = true) (mid : Bool) :
    s.endWriteH mid = s := by
  rcases h with h | h
  · simp only [State.endWriteH, h]
  · obtain ⟨f, hf⟩ := Buffer.isComplete_iff.mp h
    simp only [State.endWriteH, hf]

theorem State.endWriteH_of_no_byte {broken : Bool} (h : s.portH.buffer = .assembling [] broken) (mid : Bool) :
    s.endWriteH mid = { s with portH := { s.portH with buffer := .empty } } := by
  simp only [State.endWriteH, h]
  rfl

theorem State.endWriteH_of_bytes {bs : List Byte} {broken : Bool} (h : s.portH.buffer = .assembling (b :: bs) broken)
    (mid : Bool) : s.endWriteH mid = s.deliverH { bytes := b :: bs, broken := broken || mid } := by
  simp only [State.endWriteH, h]

/-- Settles O55: the bus condition moves the phase, after `State.endBusTransaction` by the phase and the buffer. -/
theorem busConditionsEndTransactions : Obligations.BusConditionsEndTransactions := by
  intro s n c ph hn hc
  have hexec : exec c s = .next (s.busCondition ph n) := by rcases hc with ⟨rfl, rfl⟩ | ⟨rfl, rfl⟩ <;> rfl
  have hactive (h : s.portH.phase ≠ .inactive) :
      exec c s = .next ((s.endBusTransaction (decide (n ≠ 0))).inPhase ph) := by
    rw [hexec, State.busCondition_of_active h hn]
  refine ⟨fun h => ?_, fun h => ?_, fun h => ?_, fun h => ?_⟩
  · rw [hexec, State.busCondition_of_inactive h]
  · rw [hactive (by rcases h with h | h <;> simp [h]), State.endBusTransaction_of_idle h]
    rfl
  · rw [hactive (by simp [h]), State.endBusTransaction_of_read h]
    rfl
  · have hwrite : exec c s = .next ((s.endWriteH (decide (n ≠ 0))).inPhase ph) := by
      rw [hactive (by rcases h with h | h <;> simp [h]), State.endBusTransaction_of_write h]
    refine ⟨fun hb => ?_, fun broken hb => ?_, fun b bs broken hb => ⟨fun hroom => ?_, fun hfull => ?_⟩⟩
    · rw [hwrite, State.endWriteH_of_no_frame hb]
      rfl
    · rw [hwrite, State.endWriteH_of_no_byte hb]
      rfl
    · rw [hwrite, State.endWriteH_of_bytes hb, State.deliverH_of_room hroom]
      rfl
    · rw [hwrite, State.endWriteH_of_bytes hb, State.deliverH_of_full hfull]
      rfl

/-! ### Bytes that Port H receives (R149, R150, R152, R155) -/

theorem addressBits_toNat (b : Byte) : (addressBits b).toNat = b.toNat / 2 := by
  have := b.isLt
  rw [addressBits, BitVec.extractLsb'_toNat, Nat.shiftRight_eq_div_pow]
  omega

theorem directionRead_iff (b : Byte) : directionRead b = true ↔ b.toNat % 2 = 1 := by
  rw [directionRead, ← BitVec.testBit_toNat, Nat.testBit_zero, decide_eq_true_iff]

/-- Is the byte the port's own address with a direction? -/
theorem addressBits_eq_iff {q : PortH} : addressBits b = q.address ↔ b.toNat / 2 = q.address.toNat := by
  rw [← addressBits_toNat, BitVec.toNat_inj]

section
variable {q : PortH} {noResponse : Bool}

theorem PortH.addressed_of_other (h : b.toNat / 2 ≠ q.address.toNat) :
    q.addressed b noResponse = { q with phase := .idle, ack := false } := if_pos (mt addressBits_eq_iff.mp h)

theorem PortH.addressed_of_read (h : b.toNat = 2 * q.address.toNat + 1) :
    q.addressed b noResponse =
      { q with phase := .read, cursor := if noResponse then .fill else .sending 0, stopped := false, ack := true } := by
  have haddress : addressBits b = q.address := addressBits_eq_iff.mpr (by omega)
  have hread : directionRead b = true := (directionRead_iff b).mpr (by omega)
  simp only [PortH.addressed, haddress, hread, ne_eq, not_true_eq_false, if_false, if_true]

theorem PortH.addressed_of_write (h : b.toNat = 2 * q.address.toNat) :
    q.addressed b noResponse =
      if q.buffer.isComplete then { q with phase := .skip, ack := false }
      else { q with phase := .write, buffer := .assembling [] false, ack := true } := by
  have haddress : addressBits b = q.address := addressBits_eq_iff.mpr (by omega)
  have hwrite : ¬ directionRead b = true := mt (directionRead_iff b).mp (by omega)
  simp only [PortH.addressed, haddress, hwrite, ne_eq, not_true_eq_false, if_false, Bool.false_eq_true]

theorem PortH.received_of_write {bytes : List Byte} {broken : Bool} (hp : q.phase = .write)
    (hb : q.buffer = .assembling bytes broken) :
    q.received b =
      if bytes.length < 16 then { q with buffer := .assembling (bytes ++ [b]) broken, ack := true }
      else { q with buffer := .assembling bytes true, phase := .skip, ack := false } := by
  simp only [PortH.received, hp, hb, Config.frameBytes]

theorem PortH.received_of_skip (hp : q.phase = .skip) : q.received b = { q with ack := false } := by
  simp only [PortH.received, hp]

end

theorem exec_addressByte_of_address (h : s.portH.phase = .address) :
    exec (.addressByte b) s = .next (s.setPortH (s.portH.addressed b (s.port .h).responses.isEmpty)) :=
  congrArg Host.Outcome.next (if_pos h)

/-- Settles O56: `PortH.addressed` by the address and the direction, `PortH.received` by the phase and the bytes kept. -/
theorem portHReceivesBytes : Obligations.PortHReceivesBytes := by
  intro s b
  have hreceive : exec (.writeDataByte b) s = .next (s.setPortH (s.portH.received b)) := rfl
  refine ⟨fun h => congrArg Host.Outcome.next (if_neg h), fun h => ⟨fun ho => ?_, fun hr => ?_, fun hw hb => ?_, fun hw hb => ?_⟩,
    fun bytes broken hp hb => ⟨fun hlen => ?_, fun hlen => ?_⟩, fun hp => ?_⟩
  · rw [exec_addressByte_of_address h, PortH.addressed_of_other ho]
    rfl
  · rw [exec_addressByte_of_address h, PortH.addressed_of_read hr]
    simp only [List.isEmpty_iff]
    rfl
  · rw [exec_addressByte_of_address h, PortH.addressed_of_write hw, if_pos hb]
    rfl
  · rw [exec_addressByte_of_address h, PortH.addressed_of_write hw, if_neg (by simp [hb])]
    rfl
  · rw [hreceive, PortH.received_of_write hp hb, if_pos hlen]
    rfl
  · rw [hreceive, PortH.received_of_write hp hb, if_neg (Nat.not_lt.mpr hlen)]
    rfl
  · rw [hreceive, PortH.received_of_skip hp]
    rfl

/-! ### Bytes that Port H sends (R155 to R157) -/

theorem Response.getElem?_byteAt {r : Response} {n : Nat} (h : n < r.bytes.length) : r.bytes[n]? = some (r.byteAt n) := by
  rw [List.getElem?_eq_getElem h, Response.byteAt_of_getElem? (List.getElem?_eq_getElem h)]

section
variable (hp : s.portH.phase = .read) (hs : s.portH.stopped = false)

include hp hs in
theorem State.sdaByte_of_fill (hc : s.portH.cursor = .fill) : s.sdaByte = some 0 := by
  simp only [State.sdaByte, hp, hs, hc, decide_true, Bool.not_false, Bool.and_self, if_true]

include hp hs in
theorem State.sdaByte_of_sending {n : Nat} {r : Response} {rest : List Response} (hc : s.portH.cursor = .sending n)
    (hr : (s.port .h).responses = r :: rest) : s.sdaByte = some (r.byteAt n) := by
  simp only [State.sdaByte, hp, hs, hc, hr, decide_true, Bool.not_false, Bool.and_self, if_true]

theorem exec_responseByteAck_of_fill (hc : s.portH.cursor = .fill) (ack : Bool) : exec (.responseByteAck ack) s = .next s := by
  simp only [exec, execResponseByteAck, hc, ite_self]

include hp hs in
theorem exec_responseByteAck_of_sending {n : Nat} {r : Response} {rest : List Response} (hc : s.portH.cursor = .sending n)
    (hr : (s.port .h).responses = r :: rest) (ack : Bool) :
    exec (.responseByteAck ack) s = .next
      (if n + 1 < r.bytes.length then s.setPortH { s.portH with cursor := .sending (n + 1), stopped := !ack }
      else s.removeSentH) := by
  simp only [exec, execResponseByteAck, hp, hs, hc, hr, decide_true, Bool.not_false, Bool.and_self, if_true]

end

theorem State.removeSentH_of_head {r : Response} {rest : List Response} (hr : (s.port .h).responses = r :: rest) :
    s.removeSentH =
      { s with
        portH := { s.portH with cursor := .fill }, ports := s.ports.set .h { s.port .h with responses := rest } } := by
  have htail : (s.port .h).responses.tail = rest := by rw [hr, List.tail_cons]
  exact congrArg (fun x => { s with
    portH := { s.portH with cursor := .fill }, ports := s.ports.set .h { s.port .h with responses := x } }) htail

/-- Settles O57: the byte driven and the acknowledge by the cursor; the last byte removes the response. -/
theorem portHSendsTheHeadResponse : Obligations.PortHSendsTheHeadResponse := by
  intro s ack hp
  refine ⟨fun hs => ?_, fun hs hc => ?_, fun n r rest hs hc hr => ?_⟩
  · have hoff : ¬ (decide (s.portH.phase = .read) && !s.portH.stopped) = true := by simp [hs]
    exact ⟨if_neg hoff, congrArg Host.Outcome.next (if_neg hoff)⟩
  · exact ⟨State.sdaByte_of_fill hp hs hc, exec_responseByteAck_of_fill hc ack⟩
  · have hbyte (h : n < r.bytes.length) : s.sdaByte = r.bytes[n]? :=
      (State.sdaByte_of_sending hp hs hc hr).trans (Response.getElem?_byteAt h).symm
    rw [exec_responseByteAck_of_sending hp hs hc hr]
    refine ⟨fun h => ⟨hbyte (by omega), ?_⟩, fun h => ⟨hbyte (by omega), ?_⟩⟩
    · rw [if_pos h]
      rfl
    · rw [if_neg (by omega), State.removeSentH_of_head hr]

/-! ### Frames and strobes of Port L (R162 to R164) -/

theorem exec_lfrmAssert_of_idle (h : s.portL.framing = .idle) :
    exec .lfrmAssert s = .next ((s.setLfrm true).setPortL s.portL.openFrame) := congrArg Host.Outcome.next (if_pos h)

theorem PortL.openFrame_of_empty {q : PortL} (h : q.buffer = .empty) :
    q.openFrame = { q with framing := .opened, buffer := .assembling [] false } := by simp only [PortL.openFrame, h]

theorem PortL.openFrame_of_complete {q : PortL} (h : q.buffer.isComplete = true) :
    q.openFrame = { q with framing := .held } := by
  obtain ⟨f, hf⟩ := Buffer.isComplete_iff.mp h
  simp only [PortL.openFrame, hf]

theorem State.ldLevel_eq (s : State) (data : Byte) :
    s.ldLevel data = if s.hubState = .ready ∧ s.inputs.lack = true then s.portL.outLatch else data := by
  simp only [State.ldLevel, State.ldDriven, Bool.and_eq_true, State.ready_iff s]
  split <;> rfl

/-- A strobe in a framing state with neither an open frame nor a held one. -/
theorem PortL.strobed_of_closed {q : PortL} (h : q.framing ∈ [.inactive, .unsynced, .idle, .discard, .heldBroken]) :
    q.strobed b = q := by
  simp only [List.mem_cons, List.not_mem_nil, or_false] at h
  rcases h with h | h | h | h | h <;> simp only [PortL.strobed, h]

/-- Settles O58: `PortL.openFrame` by the buffer, `PortL.strobed` by the framing state and the latch. -/
theorem portLOpensFramesAndLatchesBytes : Obligations.PortLOpensFramesAndLatchesBytes := by
  intro s data
  have hstrobe : exec (.lstbFall data) s = .next (s.setPortL (s.portL.strobed (s.ldLevel data))) := rfl
  refine ⟨fun h => congrArg Host.Outcome.next (if_neg h), fun h hb => ?_, fun h hb => ?_, fun h hl => ?_,
    fun b bytes broken hl hb => ⟨fun h => ?_, fun h => ?_⟩, fun h => ?_, fun h => ?_⟩
  · rw [exec_lfrmAssert_of_idle h, PortL.openFrame_of_empty hb]
    rfl
  · rw [exec_lfrmAssert_of_idle h, PortL.openFrame_of_complete hb]
    rfl
  · have hlatched : s.portL.strobed (s.ldLevel data) = { s.portL with latch := some (s.ldLevel data) } := by
      simp only [PortL.strobed, h, hl]
    rw [hstrobe, hlatched, State.ldLevel_eq]
    refine ⟨rfl, fun t ht => ?_⟩
    cases ht
    simp [State.libf, State.setPortL]
  · simp only [hstrobe, PortL.strobed, h, hl, hb, Buffer.markBroken]
    rfl
  · simp only [hstrobe, PortL.strobed, h, hl, hb, Buffer.markBroken]
    rfl
  · simp only [hstrobe, PortL.strobed, h]
    rfl
  · rw [hstrobe, PortL.strobed_of_closed h]
    rfl

/-! ### Bytes and ends of frames of Port L (R165 to R167) -/

theorem exec_lfrmDeassert_of_full (h : s.portL.framing = .opened ∨ s.portL.framing = .discard) (hl : s.portL.latch = some b) :
    exec .lfrmDeassert s = .next ((s.setLfrm false).setPortL { s.portL with framing := .ending }) := by
  rcases h with h | h <;> simp only [exec, execLfrmDeassert, h, hl]

theorem exec_lfrmDeassert_of_empty (h : s.portL.framing = .opened ∨ s.portL.framing = .discard) (hl : s.portL.latch = none) :
    exec .lfrmDeassert s = .next (s.setLfrm false).endFrameL := by
  rcases h with h | h <;> simp only [exec, execLfrmDeassert, h, hl]

theorem exec_lfrmDeassert_of_held
    (h : s.portL.framing = .held ∨ s.portL.framing = .heldBroken ∨ s.portL.framing = .unsynced) :
    exec .lfrmDeassert s = .next ((s.setLfrm false).setPortL { s.portL with framing := .idle }) := by
  rcases h with h | h | h <;> simp only [exec, execLfrmDeassert, h]

theorem exec_lfrmDeassert_of_ending (h : s.portL.framing = .ending) :
    exec .lfrmDeassert s = .next (s.setLfrm false) := by
  simp only [exec, execLfrmDeassert, h]

theorem State.endFrameL_of_no_byte {broken : Bool} (h : s.portL.buffer = .assembling [] broken) :
    s.endFrameL = { s with portL := { s.portL with framing := .idle, buffer := .empty } } := by
  simp only [State.endFrameL, h]
  rfl

/-- A frame with bytes joins the queue, where there is room. -/
theorem State.endFrameL_of_room {f : Frame} (h : s.portL.buffer = .assembling f.bytes f.broken) (hf : f.bytes ≠ [])
    (hroom : (s.port .l).requests.length < 4) :
    s.endFrameL =
      { s with
        portL := { s.portL with framing := .idle, buffer := .empty }
        ports := s.ports.set .l { s.port .l with requests := (s.port .l).requests ++ [f] } } := by
  obtain ⟨bytes, broken⟩ := f
  obtain ⟨a, as, rfl⟩ := List.exists_cons_of_ne_nil hf
  simp only [State.endFrameL, h]
  exact State.deliverL_of_room (s := s.setPortL { s.portL with framing := .idle }) hroom _

/-- A frame with bytes is kept COMPLETE by a full queue. -/
theorem State.endFrameL_of_full {f : Frame} (h : s.portL.buffer = .assembling f.bytes f.broken) (hf : f.bytes ≠ [])
    (hfull : 4 ≤ (s.port .l).requests.length) :
    s.endFrameL = { s with portL := { s.portL with framing := .idle, buffer := .complete f } } := by
  obtain ⟨bytes, broken⟩ := f
  obtain ⟨a, as, rfl⟩ := List.exists_cons_of_ne_nil hf
  simp only [State.endFrameL, h]
  exact State.deliverL_of_full (s := s.setPortL { s.portL with framing := .idle }) hfull _

theorem exec_inboundByteTake_of_none (h : s.hubState ≠ .ready ∨ s.portL.latch = none) :
    exec .inboundByteTake s = .next s := by
  rcases h with h | h
  · simp only [exec, execInboundByteTake, (State.ready_eq_false_iff s).mpr h]
  · cases hr : s.ready <;> simp only [exec, execInboundByteTake, h, hr]

theorem exec_inboundByteTake_of_latch (hr : s.hubState = .ready) (hl : s.portL.latch = some b) :
    exec .inboundByteTake s = .next
      (if s.portL.framing = .ending then (s.setPortL (s.portL.takeByte b)).endFrameL.heldOver
      else s.setPortL (s.portL.takeByte b)) := by
  simp only [exec, execInboundByteTake, (State.ready_iff s).mpr hr, hl]

theorem PortL.takeByte_of_room {q : PortL} {bytes : List Byte} {broken : Bool} (hb : q.buffer = .assembling bytes broken)
    (h : bytes.length < 16) :
    q.takeByte b = { q with latch := none, buffer := .assembling (bytes ++ [b]) broken } := by
  simp only [PortL.takeByte, hb, Config.frameBytes, h, if_true]

theorem PortL.takeByte_of_full {q : PortL} {bytes : List Byte} {broken : Bool} (hb : q.buffer = .assembling bytes broken)
    (h : 16 ≤ bytes.length) :
    q.takeByte b =
      { q with
        latch := none, buffer := .assembling bytes true
        framing := if q.framing = .opened then .discard else q.framing } := by
  simp only [PortL.takeByte, hb, Config.frameBytes, if_neg (Nat.not_lt.mpr h)]

/-- Port L with a whole frame in its buffer and the latch EMPTY. -/
def PortL.holding (f : Frame) (q : PortL) : PortL := { q with latch := none, buffer := .assembling f.bytes f.broken }

/-- The frame that the take of its last byte ends. -/
def lastFrame (bytes : List Byte) (broken : Bool) (b : Byte) : Frame :=
  if bytes.length < 16 then { bytes := bytes ++ [b], broken := broken } else { bytes := bytes, broken := true }

theorem lastFrame_ne_nil (bytes : List Byte) (broken : Bool) (b : Byte) : (lastFrame bytes broken b).bytes ≠ [] := by
  unfold lastFrame
  split
  · simp
  next h =>
    intro hnil
    exact h (by simp [show bytes = [] from hnil])

theorem PortL.takeByte_of_ending {q : PortL} {bytes : List Byte} {broken : Bool} (h : q.framing = .ending)
    (hb : q.buffer = .assembling bytes broken) :
    q.takeByte b = q.holding (lastFrame bytes broken b) := by
  unfold PortL.holding lastFrame
  by_cases hlen : bytes.length < 16
  · rw [PortL.takeByte_of_room hb hlen, if_pos hlen]
  · rw [PortL.takeByte_of_full hb (Nat.not_lt.mp hlen), if_neg hlen, if_neg (by simp [h])]

/-- Settles O59: the frame's end by `State.endFrameL`, and a byte's take by `PortL.takeByte`, with the assertion that was
held over. -/
theorem portLTakesBytesAndEndsFrames : Obligations.PortLTakesBytesAndEndsFrames := by
  intro s
  refine ⟨fun h => ⟨fun b hl => ?_, fun broken hl hb => ?_, fun a bytes broken hl hb => ⟨fun hroom => ?_, fun hfull => ?_⟩⟩,
    fun h => ?_, fun h => ?_, exec_inboundByteTake_of_none, fun b bytes broken hr hl hb =>
      ⟨fun h hlen => ?_, fun h hlen => ?_, fun h f hf => ?_⟩⟩
  · rw [exec_lfrmDeassert_of_full h hl]
    rfl
  · rw [exec_lfrmDeassert_of_empty h hl, State.endFrameL_of_no_byte (s := s.setLfrm false) hb]
    rfl
  · rw [exec_lfrmDeassert_of_empty h hl, State.endFrameL_of_room (s := s.setLfrm false) (f := ⟨a :: bytes, broken⟩) hb
      (List.cons_ne_nil a bytes) hroom]
    rfl
  · rw [exec_lfrmDeassert_of_empty h hl, State.endFrameL_of_full (s := s.setLfrm false) (f := ⟨a :: bytes, broken⟩) hb
      (List.cons_ne_nil a bytes) hfull]
    rfl
  · rw [exec_lfrmDeassert_of_held h]
    rfl
  · rw [exec_lfrmDeassert_of_ending h]
    rfl
  · rw [exec_inboundByteTake_of_latch hr hl, if_neg h, PortL.takeByte_of_room hb hlen]
    rfl
  · rw [exec_inboundByteTake_of_latch hr hl, if_neg h, PortL.takeByte_of_full hb hlen]
    rfl
  · obtain rfl : f = lastFrame bytes broken b := hf
    have htake : exec .inboundByteTake s =
        .next (s.setPortL (s.portL.holding (lastFrame bytes broken b))).endFrameL.heldOver := by
      rw [exec_inboundByteTake_of_latch hr hl, if_pos h, PortL.takeByte_of_ending h hb]
    have hbytes := lastFrame_ne_nil bytes broken b
    refine ⟨fun hroom => ?_, fun hfull => ?_⟩
    · rw [htake, State.endFrameL_of_room (s := s.setPortL (s.portL.holding _)) rfl hbytes hroom, State.heldOver]
      cases hlfrm : s.inputs.lfrm <;> simp [hlfrm, State.setPortL, PortL.openFrame, PortL.holding, State.port]
    · rw [htake, State.endFrameL_of_full (s := s.setPortL (s.portL.holding _)) rfl hbytes hfull, State.heldOver]
      cases hlfrm : s.inputs.lfrm <;> simp [hlfrm, State.setPortL, PortL.openFrame, PortL.holding]

end

end Sys2Proof.Machine
